-- ==== Sys2Proof/Word.lean ====
section
/-!
DEFINITION. The widths of the block's values (spec 00_scope.md R7, R10, R11): every one an unsigned bit vector
with bit 0 the least significant.
-/

namespace Sys2Proof

/-- An operand, a result or a generator lane: 64 bits (R7). -/
abbrev Word := BitVec 64

/-- A seed, a round count or a generator output: 32 bits (R7). -/
abbrev Half := BitVec 32

/-- An opcode or a cause code: 4 bits (R10). -/
abbrev Nibble := BitVec 4

/-- The exact product of two words: 128 bits (R7). -/
abbrev Wide := BitVec 128

/-- A command word: 196 bits (R10, R70). -/
abbrev CmdWord := BitVec 196

/-- A response word: 68 bits (R10, R72). -/
abbrev RspWord := BitVec 68

end Sys2Proof
end

