-- ==== Sys2Proof/Config.lean ====
section
/-!
DEFINITION. What an instance of the block fixes (the generator constants, spec 00_scope.md R8) and the free values: the
values the spec leaves unspecified. Each free value is an opaque constant applied to the number of the draw
(State.fresh), so nothing can be proved about which value it is. That the draw number is all it is applied to (busyExtra apart,
log 6) is the model's choice, log 17: two states with one count draw equal values, which no rule of the spec says.
-/

namespace Sys2Proof

/-- The record `GenConsts` of R8: seven named constants of the generator unit. -/
structure GenConsts where
  /-- `A_X`, the multiplier of lane X. -/
  aX : Half
  /-- `A_Y`, the multiplier of lane Y. -/
  aY : Half
  /-- `SEED_XOR_X`, XORed with the first seed. -/
  seedXorX : Word
  /-- `SEED_XOR_Y`, XORed with the second seed. -/
  seedXorY : Word
  /-- `MIX_C0`, the multiplier of mix round 0. -/
  mixC0 : Word
  /-- `MIX_C1`, the multiplier of mix round 1. -/
  mixC1 : Word
  /-- `MIX_C2`, the multiplier of mix round 2. -/
  mixC2 : Word
  deriving DecidableEq, Repr, Inhabited

/-- The parameter set `REF-GK` of R9 [the spec writer's recollection, G1]: for running the spec's vectors only. -/
def GenConsts.refGk : GenConsts where
  aX := 0xfffd21a7#32
  aY := 0xfffd1361#32
  seedXorX := 0x9368e53c2f6af274#64
  seedXorY := 0x586dcd208f7cd3fd#64
  mixC0 := 0xff51afd7ed558ccd#64
  mixC1 := 0xc4ceb9fe1a85ec53#64
  mixC2 := 0x0000000000000001#64

/-- The parameter set `TOY` of R9, the spec's own: for running the spec's vectors only. -/
def GenConsts.toy : GenConsts where
  aX := 0xffffda61#32
  aY := 0xfffa2849#32
  seedXorX := 0x0000000100000000#64
  seedXorY := 0x0000000200000000#64
  mixC0 := 3#64
  mixC1 := 3#64
  mixC2 := 3#64

namespace Config

/-- The constants of this instance of the block, one value for its whole life (R8; D18: the model's one open parameter).
The constraints of R8 are not assumed of it. Log 1. -/
opaque genConsts : GenConsts

/-- How many further clock edges a command spends in BUSY beyond the least, one (R55, R68: finite and otherwise unspecified):
free for every draw number, command word and pair of lane values, so that neither a latency nor its independence of the
operands can be proved (91_not_in_source.md N20). What it does not depend on is the model's choice, log 6. -/
opaque busyExtra : Nat → CmdWord → Word → Word → Nat

/-- `rsp_word` while `rsp_valid == 0` (R50, U11: unspecified). Log 8. DESIGN CHOICE, log 17: for one draw number it depends on no
register, so not on a stale `RDATA` or `RCAUSE`, nor on the lanes. -/
opaque freeRspWord : Nat → RspWord

/-- `X` after a reset edge (R35, R200: unspecified). Log 4. DESIGN CHOICE, log 17: for one draw number it depends on no register,
so not on the old value of `X`. The same two entries hold of the seven that follow. -/
opaque freeX : Nat → Word
/-- `Y` after a reset edge. -/
opaque freeY : Nat → Word
/-- `OP` after a reset edge. -/
opaque freeOp : Nat → Nibble
/-- `RA` after a reset edge. -/
opaque freeRa : Nat → Word
/-- `RB` after a reset edge. -/
opaque freeRb : Nat → Word
/-- `RC` after a reset edge. -/
opaque freeRc : Nat → Word
/-- `RDATA` after a reset edge. -/
opaque freeRdata : Nat → Word
/-- `RCAUSE` after a reset edge. -/
opaque freeRcause : Nat → Nibble

/-- `PROD` where R34 leaves the working registers unspecified. Log 5. DESIGN CHOICE, log 17: for one draw number it depends on no
register. The same two entries hold of the ten that follow. -/
opaque freeProd : Nat → Wide
/-- `REM` where unspecified. -/
opaque freeRem : Nat → BitVec 65
/-- `ACC` where unspecified. -/
opaque freeAcc : Nat → Word
/-- `BIT` where unspecified. -/
opaque freeBit : Nat → BitVec 6
/-- `N1` where unspecified. -/
opaque freeN1 : Nat → Word
/-- `D` where unspecified. -/
opaque freeD : Nat → Word
/-- `KCNT` where unspecified. -/
opaque freeKcnt : Nat → Half
/-- `W` where unspecified. -/
opaque freeW : Nat → Word
/-- `XR` where unspecified. -/
opaque freeXr : Nat → Word
/-- `T` where unspecified. -/
opaque freeT : Nat → Word
/-- `RS` where unspecified: which of its three values (R33). -/
opaque freeRs : Nat → Fin 3

end Config

end Sys2Proof
end

