-- ==== Sys2Proof/Machine/State.lean ====
section
/-!
DEFINITION. The state of the block as plain data: every register of spec 10_state.md (R20, R33), the host's coming inputs,
and the model's two counters; the reasons a step can stop; the state after reset (R35).
-/

namespace Sys2Proof.Machine

/-- The controller phase `PH` (R20, R25): no command held, a command executing, a response waiting. -/
inductive Phase where
  | idle
  | busy
  | resp
  deriving DecidableEq, Repr

/-- The round state `RS` (R33). -/
inductive RoundState where
  | searching
  | passed
  | composite
  deriving DecidableEq, Repr

/-- The five values of `CAUSE` that are ever produced (30_encoding.md R73, 60_exceptions.md R171). -/
inductive Cause where
  | none
  | illegalOp
  | badModulus
  | badCandidate
  | unseeded
  deriving DecidableEq, Repr

/-- The inputs the host drives into one rising edge of `clk` (20_memory.md R50, R51). -/
structure EdgeInput where
  /-- Port `rst`. -/
  rst : Bool
  /-- Port `cmd_valid`. -/
  cmdValid : Bool
  /-- Port `cmd_word`. -/
  cmdWord : CmdWord
  /-- Port `rsp_ready`. -/
  rspReady : Bool
  deriving DecidableEq, Repr

/-- The working registers of R33: hidden state, unspecified outside the micro-steps that write them (R34). -/
structure Work where
  /-- `PROD`, the exact product (R133). -/
  prod : Wide
  /-- `REM`, the running remainder (R133). -/
  rem : BitVec 65
  /-- `ACC`, the accumulator of square-and-multiply (R142). -/
  acc : Word
  /-- `BIT`, the index of the exponent bit (R142). -/
  bit : BitVec 6
  /-- `N1`, the value `n - 1` (R155). -/
  n1 : Word
  /-- `D`, the odd part of `n - 1` (R155). -/
  d : Word
  /-- `KCNT`, the rounds still to run (R155). -/
  kcnt : Half
  /-- `W`, the witness after reduction (R155). -/
  w : Word
  /-- `XR`, the value being squared (R155). -/
  xr : Word
  /-- `T`, the doubling counter (R155). -/
  t : Word
  /-- `RS`, the round state (R155). -/
  rs : RoundState
  deriving DecidableEq, Repr

/-- The whole machine. The fields from `x` to `rcause` are the architectural state and the latches of R20; `work` is the
hidden state of R33; the last three are the model's own (logs 6, 7, 12). -/
structure State where
  /-- `X`, generator lane (R21). -/
  x : Word
  /-- `Y`, generator lane (R22). -/
  y : Word
  /-- `SEEDED` (R24). -/
  seeded : Bool
  /-- `FLT`, the sticky fault flag (R26). -/
  flt : Bool
  /-- `PH` (R25). -/
  ph : Phase
  /-- `OP`, command latch (R27). -/
  op : Nibble
  /-- `RA`, command latch (R27). -/
  ra : Word
  /-- `RB`, command latch (R27). -/
  rb : Word
  /-- `RC`, command latch (R27). -/
  rc : Word
  /-- `RDATA`, response latch (R28). -/
  rdata : Word
  /-- `RCAUSE`, response latch (R28). -/
  rcause : Nibble
  /-- The working registers (R33). -/
  work : Work
  /-- What the host drives at the coming edges, the next one first (R17, R50); the host drives nothing once it is empty. -/
  inputs : List EdgeInput
  /-- BUSY edges still to pass before the edge at which the command ends (R55, R68). -/
  busyLeft : Nat
  /-- How many free values have been drawn: the argument of Config's opaque constants. -/
  fresh : Nat
  deriving DecidableEq, Repr

/-- Why a step would stop with a fault of the model: it never does, so there is no constructor. Every fault the spec
describes is a response the machine goes on from (R170, R176), hence a next state. -/
inductive Fault where
  deriving DecidableEq, Repr

/-- Why a step would be refused. -/
inductive Refusal where
  /-- Raised by an arm of exec whose command has no meaning yet: by none, every command has its meaning. Safe. -/
  | notModelled (mnemonic : String)
  deriving DecidableEq, Repr

/-- The working registers at reset: unspecified by the spec (R34, R35); DESIGN CHOICE zero, log 3 (unsafe). -/
def Work.reset : Work where
  prod := 0#128
  rem := 0#65
  acc := 0#64
  bit := 0#6
  n1 := 0#64
  d := 0#64
  kcnt := 0#32
  w := 0#64
  xr := 0#64
  t := 0#64
  rs := .searching

/-- The machine right after reset (R35, R201): `PH = IDLE`, `SEEDED = 0`, `FLT = 0`. The lanes and the latches are
unspecified by the spec; DESIGN CHOICE zero, log 2 (unsafe). The model's own fields: logs 6, 7, 12. -/
def State.reset : State where
  x := 0#64
  y := 0#64
  seeded := false
  flt := false
  ph := .idle
  op := 0#4
  ra := 0#64
  rb := 0#64
  rc := 0#64
  rdata := 0#64
  rcause := 0#4
  work := Work.reset
  inputs := []
  busyLeft := 0
  fresh := 0

end Sys2Proof.Machine
end

