-- ==== Sys2Proof/Machine/Flags.lean ====
section
/-!
DEFINITION. The only two flags of the block, `SEEDED` and `FLT` (spec 10_state.md R24, R26): there are no condition codes, so
these three updates are every flag computation there is.
-/

namespace Sys2Proof.Machine

/-- `SEEDED <- 1` (R24): by SEED1 and SEED2 only. -/
def State.setSeeded (s : State) : State := { s with seeded := true }

/-- `FLT <- 1` (R26, R176): by every command that ends with a non-zero cause, and sticky. -/
def State.setFlt (s : State) : State := { s with flt := true }

/-- `SEEDED <- 0`, `FLT <- 0` (R24, R26): by reset only. -/
def State.clearFlags (s : State) : State := { s with seeded := false, flt := false }

end Sys2Proof.Machine
end

