-- ==== Sys2Proof/Syntax.lean ====
section
/-!
DEFINITION. The six commands of the CC-CORE command set, version 1 (spec 30_encoding.md R74, R75): one constructor a row
of spec/opcode_table.json, with exactly the operand bits its format uses (R76).
-/

namespace Sys2Proof

/-- A command, the unit of execution (R19). Its operands stand in the order of the source's argument lists (R71). -/
inductive Instr where
  /-- `SEED1 seed` (R106), format F1. -/
  | seed1 (seed : Half)
  /-- `SEED2 seedX, seedY` (R105), format F2. -/
  | seed2 (seedX seedY : Half)
  /-- `NEXT` (R107), format F0. -/
  | next
  /-- `MULMOD a, b, m` (R131), format F3. -/
  | mulmod (a b m : Word)
  /-- `EXPMOD b, e, m` (R141), format F3. -/
  | expmod (b e m : Word)
  /-- `ISPRP n, k` (R154), format F4. -/
  | isprp (n : Word) (k : Half)
  deriving DecidableEq, Repr

/-- The opcode of a command (R74). -/
def Instr.opcode : Instr → Nibble
  | .seed1 _ => 0x1#4
  | .seed2 _ _ => 0x2#4
  | .next => 0x3#4
  | .mulmod _ _ _ => 0x4#4
  | .expmod _ _ _ => 0x5#4
  | .isprp _ _ => 0x6#4

end Sys2Proof
end

