-- ==== Sys2Proof/WellFormed.lean ====
section
/-!
DEFINITION. Which terms stand for something on the hardware. Every command does (spec 30_encoding.md R77: for a legal
opcode every value of the operand fields is a defined command, and the widths are in the types); a `GenConsts` does
when it meets the constraints of 00_scope.md R8.
-/

namespace Sys2Proof

/-- A command's well-formedness: there is nothing to check (R77, R83). -/
def Instr.wellFormed : Instr → Bool
  | .seed1 _ => true
  | .seed2 _ _ => true
  | .next => true
  | .mulmod _ _ _ => true
  | .expmod _ _ _ => true
  | .isprp _ _ => true

/-- The constraints of R8 that can be decided: odd multipliers, distinct lanes, distinct XOR constants. -/
def GenConsts.wellFormed (g : GenConsts) : Bool :=
  g.aX.getLsbD 0 && g.aY.getLsbD 0 && (g.aX != g.aY) && (g.seedXorX != g.seedXorY)
    && g.mixC0.getLsbD 0 && g.mixC1.getLsbD 0 && g.mixC2.getLsbD 0

/-- The primality constraint of R8 on the lane multipliers, shifts taken in unbounded integers. No rule of the spec
depends on it (R8). -/
def GenConsts.primeLanes (g : GenConsts) : Prop :=
  Nat.Prime (g.aX.toNat * 2 ^ 32 - 1) ∧ Nat.Prime (g.aX.toNat * 2 ^ 31 - 1)
    ∧ Nat.Prime (g.aY.toNat * 2 ^ 32 - 1) ∧ Nat.Prime (g.aY.toNat * 2 ^ 31 - 1)

end Sys2Proof
end

