-- ==== Sys2Proof/Decode.lean ====
section
/-!
DEFINITION. The command word's fields (spec 30_encoding.md R71), the decoder (R74, R76, R77, R83), the encoder (R80) and the
opcode table as match and mask (R74, spec/opcode_table.json).
-/

namespace Sys2Proof

/-! ### Slices and widening (00_scope.md R11) -/

/-- `low32(v) = v[31:0]`. -/
def low32 (v : Word) : Half := v.extractLsb' 0 32

/-- `high32(v) = v[63:32]`. -/
def high32 (v : Word) : Half := v.extractLsb' 32 32

/-- `zext_64(v)` of a 32-bit value. -/
def zext64 (v : Half) : Word := v.setWidth 64

/-- `{hi, lo}`, two halves as one word. -/
def concatHalves (hi lo : Half) : Word := hi ++ lo

/-! ### The fields of the command word (R71) -/

/-- Field `OP`, `CW[195:192]`. -/
def opField (w : CmdWord) : Nibble := w.extractLsb' 192 4

/-- Field `C`, `CW[191:128]`. -/
def cField (w : CmdWord) : Word := w.extractLsb' 128 64

/-- Field `B`, `CW[127:64]`. -/
def bField (w : CmdWord) : Word := w.extractLsb' 64 64

/-- Field `A`, `CW[63:0]`. -/
def aField (w : CmdWord) : Word := w.extractLsb' 0 64

/-- The command word with the given four fields, `OP` first (R71, R80). -/
def packWord (op : Nibble) (c b a : Word) : CmdWord := op ++ c ++ b ++ a

/-! ### The decoder -/

/-- Why a command word is no command: the only illegal encodings are reserved opcodes (R77). -/
inductive DecodeError where
  /-- `OP` is `0x0` or `0x7` to `0xF`. -/
  | illegalOp (op : Nibble)
  deriving DecidableEq, Repr

/-- The command named by the four fields (R74, R75): only `OP` decides which, and only the operand bits of its format
are read (R76). -/
def decodeFields (op : Nibble) (a b c : Word) : Except DecodeError Instr :=
  match op.toNat with
  | 1 => .ok (.seed1 (low32 a))
  | 2 => .ok (.seed2 (low32 a) (low32 b))
  | 3 => .ok .next
  | 4 => .ok (.mulmod a b c)
  | 5 => .ok (.expmod a b c)
  | 6 => .ok (.isprp a (low32 b))
  | _ => .error (.illegalOp op)

/-- The decoder, total on every 196-bit word (R83). -/
def decode (w : CmdWord) : Except DecodeError Instr :=
  decodeFields (opField w) (aField w) (bField w) (cField w)

/-- The decoder as the host asks for it: the word whose low `nbits` bits are `w`'s and whose other bits are 0. -/
def decodeTableWord (nbits w : Nat) : Option Instr :=
  match decode (BitVec.ofNat 196 (w % 2 ^ nbits)) with
  | .ok i => some i
  | .error _ => none

/-! ### The encoder -/

/-- The command word of a command, unused bits zero (the table of R80). -/
def encode : Instr → CmdWord
  | .seed1 seed => packWord 0x1#4 0#64 0#64 (zext64 seed)
  | .seed2 seedX seedY => packWord 0x2#4 0#64 (zext64 seedY) (zext64 seedX)
  | .next => packWord 0x3#4 0#64 0#64 0#64
  | .mulmod a b m => packWord 0x4#4 m b a
  | .expmod b e m => packWord 0x5#4 m e b
  | .isprp n k => packWord 0x6#4 0#64 (zext64 k) n

/-- The bits of the command word that a command's format uses, as a mask (R75, R76). -/
def usedBits : Instr → CmdWord
  | .seed1 _ => packWord 0xf#4 0#64 0#64 0xffffffff#64
  | .seed2 _ _ => packWord 0xf#4 0#64 0xffffffff#64 0xffffffff#64
  | .next => packWord 0xf#4 0#64 0#64 0#64
  | .mulmod _ _ _ => packWord 0xf#4 (BitVec.allOnes 64) (BitVec.allOnes 64) (BitVec.allOnes 64)
  | .expmod _ _ _ => packWord 0xf#4 (BitVec.allOnes 64) (BitVec.allOnes 64) (BitVec.allOnes 64)
  | .isprp _ _ => packWord 0xf#4 0#64 0xffffffff#64 (BitVec.allOnes 64)

/-! ### The opcode table -/

/-- A row of spec/opcode_table.json: a word `w` is the row's command when `w and mask = pattern` (R74). -/
structure OpcodeRow where
  mnemonic : String
  pattern : CmdWord
  mask : CmdWord
  deriving DecidableEq, Repr

/-- Does the row claim the word? -/
def OpcodeRow.hits (r : OpcodeRow) (w : CmdWord) : Bool := (w &&& r.mask) == r.pattern

/-- The six rows (R74: `mask = 0xF << 192` for every row, `match = OP << 192`). -/
def opcodeTable : List OpcodeRow :=
  [⟨"SEED1", 0x1000000000000000000000000000000000000000000000000#196, 0xf000000000000000000000000000000000000000000000000#196⟩,
   ⟨"SEED2", 0x2000000000000000000000000000000000000000000000000#196, 0xf000000000000000000000000000000000000000000000000#196⟩,
   ⟨"NEXT", 0x3000000000000000000000000000000000000000000000000#196, 0xf000000000000000000000000000000000000000000000000#196⟩,
   ⟨"MULMOD", 0x4000000000000000000000000000000000000000000000000#196, 0xf000000000000000000000000000000000000000000000000#196⟩,
   ⟨"EXPMOD", 0x5000000000000000000000000000000000000000000000000#196, 0xf000000000000000000000000000000000000000000000000#196⟩,
   ⟨"ISPRP", 0x6000000000000000000000000000000000000000000000000#196, 0xf000000000000000000000000000000000000000000000000#196⟩]

/-- The mnemonic of a command, as the table spells it. -/
def Instr.mnemonic : Instr → String
  | .seed1 _ => "SEED1"
  | .seed2 _ _ => "SEED2"
  | .next => "NEXT"
  | .mulmod _ _ _ => "MULMOD"
  | .expmod _ _ _ => "EXPMOD"
  | .isprp _ _ => "ISPRP"

end Sys2Proof
end

