-- ==== Sys2Proof/Machine/Operands.lean ====
section
/-!
DEFINITION. The operand forms of the block: the four latches filled from a command word, and the command the latches hold
(spec 10_state.md R27, 20_memory.md R53, 30_encoding.md R71, R75, R76).
-/

namespace Sys2Proof.Machine

/-- The command latch after accepting a word: `OP`, `RC`, `RB`, `RA` written together (R53). -/
def State.latch (w : CmdWord) (s : State) : State :=
  { s with op := opField w, rc := cField w, rb := bField w, ra := aField w }

/-- The command held in the latch (R25), or the name of the reason it is none (R77). -/
def State.latched (s : State) : Except DecodeError Instr := decodeFields s.op s.ra s.rb s.rc

end Sys2Proof.Machine
end

