-- ==== Sys2Proof/Machine/Ops.lean ====
section
/-!
DEFINITION. The named operations every command and every clock edge is made of: ending a command normally or with a fault
(spec 00_scope.md R14, 60_exceptions.md R176), accepting a command, taking a response, resetting (20_memory.md R53, R54,
70_reset_and_hazards.md R200).
-/

namespace Sys2Proof.Machine

/-- The generator constants of this instance (R8, R32): the single place where the commands take them from. -/
def consts : GenConsts := Config.genConsts

/-! ### Causes -/

/-- The code of a cause (R73, R171). -/
def Cause.code : Cause → Nibble
  | .none => 0#4
  | .illegalOp => 1#4
  | .badModulus => 2#4
  | .badCandidate => 3#4
  | .unseeded => 4#4

/-! ### The working registers between micro-steps -/

/-- One of the three round states. -/
def roundStateOf (v : Fin 3) : RoundState :=
  if v = 0 then .searching else if v = 1 then .passed else .composite

/-- Working registers with nothing known of them: draw number `n` of each (R34; log 5). DESIGN CHOICE, log 17: they
depend on the draw number alone. -/
def freeWork (n : Nat) : Work where
  prod := Config.freeProd n
  rem := Config.freeRem n
  acc := Config.freeAcc n
  bit := Config.freeBit n
  n1 := Config.freeN1 n
  d := Config.freeD n
  kcnt := Config.freeKcnt n
  w := Config.freeW n
  xr := Config.freeXr n
  t := Config.freeT n
  rs := roundStateOf (Config.freeRs n)

/-- The working registers become unspecified (R34). -/
def State.forgetWork (s : State) : State :=
  { s with work := freeWork s.fresh, fresh := s.fresh + 1 }

/-! ### Ending a command -/

/-- The end of a command (R28, R55): the response latch written, `PH <- RESP`. -/
def State.endCommand (c : Cause) (data : Word) (s : State) : State :=
  { s.forgetWork with rdata := data, rcause := c.code, ph := .resp }

/-- `respond(v)` (R14): the command ends normally with `CAUSE = 0` and `DATA = v`. -/
def respond (v : Word) (s : State) : Host.Outcome State Fault Refusal :=
  .next (s.endCommand .none v)

/-- `raise Fault(c)` (R14, R176), the block's only exception: `FLT <- 1`, `RCAUSE <- c`, `RDATA <- 0`, `PH <- RESP`, and
nothing else. There is nothing to return from (R179): the response is taken like any other. -/
def raiseFault (c : Cause) (s : State) : Host.Outcome State Fault Refusal :=
  .next (s.setFlt.endCommand c 0#64)

/-! ### The transitions of the ports -/

/-- The number of BUSY cycles drawn for the word `w` (R68). It may depend on the word and, once seeded, on the lanes, as the
algorithms do (91_not_in_source.md N20). DESIGN CHOICE, log 6: for one draw number it depends on nothing else, so not on
`FLT`, on the lanes before seeding, on what the latches held before, or on a working register. -/
def State.busyDraw (w : CmdWord) (s : State) : Nat :=
  Config.busyExtra s.fresh w (if s.seeded then s.x else 0#64) (if s.seeded then s.y else 0#64)

/-- Command accept (R53): the word latched, `PH <- BUSY`. The number of BUSY cycles is drawn here (log 6); the working
registers are unspecified at the start of every command (R34). -/
def State.accept (w : CmdWord) (s : State) : State :=
  { (s.latch w).forgetWork with ph := .busy, busyLeft := s.busyDraw w }

/-- One more cycle in BUSY with the command not yet ended (R55): nothing architectural changes. -/
def State.busyWait (n : Nat) (s : State) : State :=
  { s.forgetWork with busyLeft := n }

/-- Response take (R54): `PH <- IDLE`, and no other effect (R60). -/
def State.takeResponse (s : State) : State := { s with ph := .idle }

/-- The reset transition (R200): `PH <- IDLE`, `SEEDED <- 0`, `FLT <- 0`; every other register unspecified (log 4). A command
in the block is abandoned (R202). DESIGN CHOICE, log 17: the new values depend on the draw count alone, not on the old values. -/
def State.resetEdge (s : State) : State :=
  { s.clearFlags.forgetWork with
      ph := .idle
      x := Config.freeX s.fresh
      y := Config.freeY s.fresh
      op := Config.freeOp s.fresh
      ra := Config.freeRa s.fresh
      rb := Config.freeRb s.fresh
      rc := Config.freeRc s.fresh
      rdata := Config.freeRdata s.fresh
      rcause := Config.freeRcause s.fresh
      busyLeft := 0 }

/-! ### The host's inputs -/

/-- A host that drives nothing: no reset, no command offered, no response taken. -/
def EdgeInput.quiet : EdgeInput where
  rst := false
  cmdValid := false
  cmdWord := 0#196
  rspReady := false

/-- What the host drives into the coming edge (log 7). -/
def State.nextInput (s : State) : EdgeInput := s.inputs.headD EdgeInput.quiet

/-- The state as the coming edge finds it, its inputs sampled: the model's own bookkeeping, no register of the spec. -/
def State.clocked (s : State) : State :=
  { s with inputs := s.inputs.tail, fresh := s.fresh + 1 }

/-- The state about to end the command of the word `w` at its next edge: the word latched, `PH = BUSY`, no BUSY cycle left to
wait, and a host that does not reset at that edge (R25, R55; log 7). -/
def State.loadCommand (w : CmdWord) (s : State) : State :=
  { s.latch w with ph := .busy, busyLeft := 0, inputs := EdgeInput.quiet :: s.inputs }

end Sys2Proof.Machine
end

