-- ==== Sys2Proof/Machine/Generator.lean ====
section
/-!
DEFINITION. The unit `multiply_with_carry_prng_32bit` (spec 40_prng.md): its functions, parametric in `GenConsts`, and the
commands SEED1, SEED2, NEXT.
-/

namespace Sys2Proof.Machine

/-! ### Functions -/

/-- One round of the avalanche mix (R100): the shift-xor by 33, then the multiply modulo `2^64`. -/
def mixRound (c v : Word) : Word := (v ^^^ (v >>> 33)) * c

/-- `MixFn` (R100): exactly three rounds, one multiplier each. -/
def mixFn (g : GenConsts) (v : Word) : Word :=
  mixRound g.mixC2 (mixRound g.mixC1 (mixRound g.mixC0 v))

/-- `LaneFn` (R101): one multiply-with-carry step of one lane. -/
def laneFn (a : Half) (v : Word) : Word := zext64 a * zext64 (low32 v) + zext64 (high32 v)

/-- `OutFn` (R102): the wrapping sum of the low halves. -/
def outFn (x y : Word) : Half := low32 x + low32 y

/-- The seeded value of lane X, first component of `SeedFn` (R103). -/
def seedLaneX (g : GenConsts) (sx : Half) : Word := mixFn g (zext64 sx ^^^ g.seedXorX)

/-- The seeded value of lane Y, second component of `SeedFn` (R103). -/
def seedLaneY (g : GenConsts) (sy : Half) : Word := mixFn g (zext64 sy ^^^ g.seedXorY)

/-- What one draw delivers: the two new lane values and the output. -/
structure Draw where
  x : Word
  y : Word
  out : Half
  deriving DecidableEq, Repr

/-- `DrawFn` (R104): both lanes stepped first, the output from the new values. -/
def drawFn (g : GenConsts) (x y : Word) : Draw where
  x := laneFn g.aX x
  y := laneFn g.aY y
  out := outFn (laneFn g.aX x) (laneFn g.aY y)

/-! ### State operations, for any constants -/

/-- `(X, Y) <- SeedFn(sx, sy)`, `SEEDED <- 1` (R105). -/
def State.seedWith (g : GenConsts) (sx sy : Half) (s : State) : State :=
  { s.setSeeded with x := seedLaneX g sx, y := seedLaneY g sy }

/-- The lanes replaced by those of a draw (R21, R22). -/
def State.withLanes (x y : Word) (s : State) : State := { s with x := x, y := y }

/-- NEXT for given constants (R107). -/
def nextWith (g : GenConsts) (s : State) : Host.Outcome State Fault Refusal :=
  if s.seeded then
    respond (zext64 (drawFn g s.x s.y).out) (s.withLanes (drawFn g s.x s.y).x (drawFn g s.x s.y).y)
  else raiseFault .unseeded s

/-! ### Commands -/

/-- SEED1 (R106): the same seed to both lanes. -/
def execSeed1 (seed : Half) (s : State) : Host.Outcome State Fault Refusal :=
  respond 0#64 (s.seedWith consts seed seed)

/-- SEED2 (R105). -/
def execSeed2 (seedX seedY : Half) (s : State) : Host.Outcome State Fault Refusal :=
  respond 0#64 (s.seedWith consts seedX seedY)

/-- NEXT (R107). -/
def execNext (s : State) : Host.Outcome State Fault Refusal := nextWith consts s

end Sys2Proof.Machine
end

