-- ==== Sys2Proof/Machine/ModMul.lean ====
section
/-!
DEFINITION. The unit `modular_multiplier_64bit` (spec 41_mulmod.md): its function, the reference reduction and the command
MULMOD.
-/

namespace Sys2Proof.Machine

/-- `zext_128(v)` of a word. -/
def zext128 (v : Word) : Wide := v.setWidth 128

/-- The exact product `P` of R130. -/
def exactProduct (a b : Word) : Wide := zext128 a * zext128 b

/-- `MulModFn` (R130): the remainder of the exact product. Applied only with `m > 1`. -/
def mulModFn (a b m : Word) : Word := (exactProduct a b % zext128 m).setWidth 64

/-- `v mod n` of two words (R136). Applied only with `n > 1`. -/
def modFn (v n : Word) : Word := v % n

/-! ### The reference reduction (R133, informative) -/

/-- One iteration of the restoring division, for the product bit `p`. -/
def reduceStep (m : Word) (p : Bool) (rem : BitVec 65) : BitVec 65 :=
  let shifted := (rem <<< 1) ||| (BitVec.ofBool p).setWidth 65
  if m.setWidth 65 ≤ shifted then shifted - m.setWidth 65 else shifted

/-- The iterations for the product bits `i - 1` down to 0. -/
def reduceLoop (m : Word) (prod : Wide) : Nat → BitVec 65 → BitVec 65
  | 0, rem => rem
  | i + 1, rem => reduceLoop m prod i (reduceStep m (prod.getLsbD i) rem)

/-- The remainder computed by 128 iterations. -/
def mulModSerial (a b m : Word) : Word :=
  (reduceLoop m (exactProduct a b) 128 0#65).setWidth 64

/-! ### Command -/

/-- MULMOD (R131). -/
def execMulmod (a b m : Word) (s : State) : Host.Outcome State Fault Refusal :=
  if m ≤ 1#64 then raiseFault .badModulus s else respond (mulModFn a b m) s

end Sys2Proof.Machine
end

