-- ==== Sys2Proof/Machine/ModExp.lean ====
section
/-!
DEFINITION. The unit `modular_exponentiation_64bit` (spec 42_expmod.md): its function and the command EXPMOD.
-/

namespace Sys2Proof.Machine

/-- The highest set bit of `e` among bits `i` down to 0; 0 if there is none. -/
def msbFrom (e : Word) : Nat → Nat
  | 0 => 0
  | i + 1 => if e.getLsbD (i + 1) then i + 1 else msbFrom e i

/-- `msb(e)` for `e != 0` (00_scope.md R12). -/
def msb (e : Word) : Nat := msbFrom e 63

/-- One iteration of square-and-multiply for the exponent bit `p` (R140). -/
def expStep (b m : Word) (p : Bool) (acc : Word) : Word :=
  if p then mulModFn (mulModFn acc acc m) b m else mulModFn acc acc m

/-- The iterations for the exponent bits `i - 1` down to 0 (R140). -/
def expLoop (b e m : Word) : Nat → Word → Word
  | 0, acc => acc
  | i + 1, acc => expLoop b e m i (expStep b m (e.getLsbD i) acc)

/-- `ExpModFn` (R140): the zero-base and no-modulus test first, the zero exponent second; the accumulator starts at
`b mod m` (90_conflicts.md C1). -/
def expModFn (b e m : Word) : Word :=
  if b = 0#64 ∨ m ≤ 1#64 then 0#64
  else if e = 0#64 then 1#64
  else expLoop b e m (msb e) (modFn b m)

/-- EXPMOD (R141). -/
def execExpmod (b e m : Word) (s : State) : Host.Outcome State Fault Refusal :=
  respond (expModFn b e m) s

end Sys2Proof.Machine
end

