-- ==== Sys2Proof/Machine/RabinMiller.lean ====
section
/-!
DEFINITION. The unit `rabin_miller_test_controller` (spec 43_rabin_miller.md): its functions, parametric in `GenConsts`, and the
command ISPRP.
-/

namespace Sys2Proof.Machine

/-- Is the value odd? -/
def isOdd (v : Word) : Bool := v.getLsbD 0

/-- The strip loop of R150, at most `fuel` shifts. -/
def stripLoop : Nat → Word → Word
  | 0, d => d
  | fuel + 1, d => if isOdd d then d else stripLoop fuel (d >>> 1)

/-- `StripFn` (R150): the odd part of `n - 1`. A non-zero word has at most 63 factors of two (R158), so 64 is no bound on
the loop (log 11, DEDUCED). -/
def stripFn (n : Word) : Word := stripLoop 64 (n - 1#64)

/-- `WitnessFn` (R151): the first output is the low word. -/
def witnessFn (o1 o2 : Half) (n : Word) : Word := modFn (concatHalves o2 o1) n

/-- The squaring loop of R152, at most `fuel` iterations: double, compare, square, test. -/
def roundLoop (n : Word) : Nat → Word → Word → RoundState
  | 0, _, _ => .searching
  | fuel + 1, t, x =>
    if t <<< 1 = n - 1#64 then .composite
    else if mulModFn x x n = n - 1#64 then .passed
    else if mulModFn x x n = 1#64 then .composite
    else roundLoop n fuel (t <<< 1) (mulModFn x x n)

/-- `RoundFn` (R152). The counter reaches `n - 1` within 63 doublings (R158), so 64 is no bound on the loop (log 11,
DEDUCED) and the result is never `searching`. -/
def roundFn (n d a : Word) : RoundState :=
  if expModFn a d n = 1#64 ∨ expModFn a d n = n - 1#64 then .passed
  else roundLoop n 64 d (expModFn a d n)

/-- What the whole test delivers: the verdict and the new lane values. -/
structure Verdict where
  prime : Bool
  x : Word
  y : Word
  deriving DecidableEq, Repr

/-- The two draws of one round (R153, R156): the lanes after them and the witness. -/
structure RoundDraw where
  x : Word
  y : Word
  witness : Word
  deriving DecidableEq, Repr

/-- Draw a witness: two draws, low word first (R151, R153). -/
def drawWitness (g : GenConsts) (n x y : Word) : RoundDraw :=
  let one := drawFn g x y
  let two := drawFn g one.x one.y
  { x := two.x, y := two.y, witness := witnessFn one.out two.out n }

/-- The round loop of `IsPrpFn` (R153), `d` already computed. -/
def isPrpLoop (g : GenConsts) (n d : Word) : Nat → Word → Word → Verdict
  | 0, x, y => { prime := true, x := x, y := y }
  | k + 1, x, y =>
    let r := drawWitness g n x y
    if roundFn n d r.witness = .composite then { prime := false, x := r.x, y := r.y }
    else isPrpLoop g n d k r.x r.y

/-- `IsPrpFn` (R153): `k` rounds, stopping at the first COMPOSITE one. -/
def isPrpFn (g : GenConsts) (n : Word) (k : Half) (x y : Word) : Verdict :=
  isPrpLoop g n (stripFn n) k.toNat x y

/-- The verdict as `DATA` (R82): 1 probably prime, 0 composite. -/
def verdictWord (b : Bool) : Word := if b then 1#64 else 0#64

/-- Is the candidate outside the contract: `n <= 2` or `n` even (R154, R174)? -/
def badCandidate (n : Word) : Bool := decide (n ≤ 2#64) || !isOdd n

/-- ISPRP for given constants (R154). -/
def isprpWith (g : GenConsts) (n : Word) (k : Half) (s : State) : Host.Outcome State Fault Refusal :=
  if badCandidate n then raiseFault .badCandidate s
  else if k ≠ 0#32 ∧ s.seeded = false then raiseFault .unseeded s
  else
    respond (verdictWord (isPrpFn g n k s.x s.y).prime)
      (s.withLanes (isPrpFn g n k s.x s.y).x (isPrpFn g n k s.x s.y).y)

/-- ISPRP (R154). -/
def execIsprp (n : Word) (k : Half) (s : State) : Host.Outcome State Fault Refusal := isprpWith consts n k s

end Sys2Proof.Machine
end

