-- ==== Sys2Proof/Machine/Dispatch.lean ====
section
/-!
DEFINITION. exec: the transaction-level transition of each command (spec 00_scope.md R6, 30_encoding.md R74).
-/

namespace Sys2Proof.Machine

def exec (i : Instr) (s : State) : Host.Outcome State Fault Refusal :=
  match i with
  | .seed1 seed => Sys2Proof.Machine.execSeed1 seed s
  | .seed2 seedX seedY => Sys2Proof.Machine.execSeed2 seedX seedY s
  | .next => Sys2Proof.Machine.execNext s
  | .mulmod a b m => Sys2Proof.Machine.execMulmod a b m s
  | .expmod b e m => Sys2Proof.Machine.execExpmod b e m s
  | .isprp n k => Sys2Proof.Machine.execIsprp n k s

end Sys2Proof.Machine
end

