-- ==== Sys2Proof/Machine/Ports.lean ====
section
/-!
DEFINITION. The output ports (spec 20_memory.md R50): functions of the registers alone (R51).
-/

namespace Sys2Proof.Machine

/-- Port `cmd_ready`: equals `(PH == IDLE)`. -/
def State.cmdReady (s : State) : Bool := s.ph = .idle

/-- Port `rsp_valid`: equals `(PH == RESP)`. -/
def State.rspValid (s : State) : Bool := s.ph = .resp

/-- Port `rsp_word`: `{RCAUSE, RDATA}` while `rsp_valid`, unspecified otherwise (R50, U11), hence a free value (log 8).
DESIGN CHOICE, log 17: that free value depends on the draw count alone, so two states with the same count, both not in RESP, show
the same word whatever their latches, lanes and working registers hold. No rule of the spec says that they do. -/
def State.rspWord (s : State) : RspWord :=
  if s.rspValid then s.rcause ++ s.rdata else Config.freeRspWord s.fresh

/-- Port `flt`: the sticky fault flag. -/
def State.fltPort (s : State) : Bool := s.flt

/-- Field `CAUSE` of a response word, `RW[67:64]` (R72). -/
def rspCause (w : RspWord) : Nibble := w.extractLsb' 64 4

/-- Field `DATA` of a response word, `RW[63:0]` (R72). -/
def rspData (w : RspWord) : Word := w.extractLsb' 0 64

/-- All that the host can see of the block in one cycle (R37, R67). -/
structure Outputs where
  cmdReady : Bool
  rspValid : Bool
  rspWord : RspWord
  flt : Bool
  deriving DecidableEq, Repr

/-- The outputs during the cycle that begins with the state. -/
def State.outputs (s : State) : Outputs where
  cmdReady := s.cmdReady
  rspValid := s.rspValid
  rspWord := s.rspWord
  flt := s.fltPort

end Sys2Proof.Machine
end

