-- ==== Sys2Proof/Machine/Edge.lean ====
section
/-!
DEFINITION. One rising edge of `clk` (spec 20_memory.md R51 to R55, 70_reset_and_hazards.md R200).
-/

namespace Sys2Proof.Machine

/-- The edge at which the latched command ends (R55): a command of the table has its meaning, any other opcode raises
ILLEGAL_OP (R77, R172), before anything else is looked at (R177). -/
def endLatched (s : State) : Host.Outcome State Fault Refusal :=
  match s.latched with
  | .ok i => exec i s
  | .error _ => raiseFault .illegalOp s

/-- An edge with `rst == 0` in IDLE: a valid command word is accepted, else nothing changes (R53). -/
def idleEdge (inp : EdgeInput) (s : State) : State :=
  if inp.cmdValid then s.accept inp.cmdWord else s

/-- An edge with `rst == 0` in BUSY: every input is ignored; the command goes on or ends (R52, R55). -/
def busyEdge (s : State) : Host.Outcome State Fault Refusal :=
  match s.busyLeft with
  | 0 => endLatched s
  | n + 1 => .next (s.busyWait n)

/-- An edge with `rst == 0` in RESP: a ready host takes the response, else nothing changes (R54). -/
def respEdge (inp : EdgeInput) (s : State) : State :=
  if inp.rspReady then s.takeResponse else s

/-- One edge with the sampled inputs: reset before all else (R52). -/
def edge (inp : EdgeInput) (s : State) : Host.Outcome State Fault Refusal :=
  if inp.rst then .next s.resetEdge
  else
    match s.ph with
    | .idle => .next (idleEdge inp s)
    | .busy => busyEdge s
    | .resp => .next (respEdge inp s)

end Sys2Proof.Machine
end

