-- ==== Sys2Proof/Machine/Step.lean ====
section
/-!
DEFINITION. One step is one rising edge of `clk` (spec 20_memory.md R51), with the inputs the host drives into it.
-/

namespace Sys2Proof.Machine

/-- One rising edge: the host's inputs sampled, then the edge taken. -/
def step (s : State) : Host.Outcome State Fault Refusal := edge s.nextInput s.clocked

/-- The state whose next step ends the command of the word with low `nbits` bits `w` (log 7). -/
def State.withFetchWord (s : State) (nbits w : Nat) : State :=
  s.loadCommand (BitVec.ofNat 196 (w % 2 ^ nbits))

end Sys2Proof.Machine
end

