-- ==== Sys2Proof/Machine/Micro.lean ====
section
/-!
DEFINITION. The micro-steps over the working registers: MULMOD (spec 41_mulmod.md R133), EXPMOD (42_expmod.md R142), ISPRP
(43_rabin_miller.md R155). They are a refinement of the commands' meanings with no timing (00_scope.md R6); step does not run
them, a statement says they end in the same response and the same architectural state (log 13).
-/

namespace Sys2Proof.Machine

/-- The position in a micro-program: the spec's step labels. What a label's line carries to the next without a named register
(the index of the reduction loop, the draws `lo` and `hi`) stands in the position. -/
inductive MicroPc where
  /-- MULMOD: the guard of R131. -/
  | m0
  /-- MULMOD: form the product, clear the remainder. -/
  | m1
  /-- MULMOD: the iterations for bits `i - 1` down to 0, then the result. -/
  | m2 (i : Nat)
  | e0 | e1 | e2 | e3 | e4 | e5 | e6 | e7
  | p0 | p1 | p2 | p3 | p4 | p5 | p6
  /-- After the first draw. -/
  | p7 (lo : Half)
  /-- After the second draw. -/
  | p8 (lo hi : Half)
  | p9 | p10 | p11 | p12 | p13 | p14 | p15 | p16 | p17 | p18
  /-- The command has ended. -/
  | done
  deriving DecidableEq, Repr

/-- A position and the machine. -/
structure MicroState where
  pc : MicroPc
  st : State
  deriving DecidableEq, Repr

/-- The working registers replaced. -/
def State.withWork (wk : Work) (s : State) : State := { s with work := wk }

/-- `raise Fault(c)` in a micro-program (R176). -/
def State.faulted (c : Cause) (s : State) : State := s.setFlt.endCommand c 0#64

/-- The micro-steps of MULMOD (R131, R133). -/
def microMulmod (pc : MicroPc) (s : State) : MicroState :=
  match pc with
  | .m0 => if s.rc ≤ 1#64 then ⟨.done, s.faulted .badModulus⟩ else ⟨.m1, s⟩
  | .m1 => ⟨.m2 128, s.withWork { s.work with prod := exactProduct s.ra s.rb, rem := 0#65 }⟩
  | .m2 0 => ⟨.done, s.endCommand .none (s.work.rem.setWidth 64)⟩
  | .m2 (i + 1) => ⟨.m2 i, s.withWork { s.work with rem := reduceStep s.rc (s.work.prod.getLsbD i) s.work.rem }⟩
  | _ => ⟨.done, s⟩

/-- The micro-steps of EXPMOD (R142). -/
def microExpmod (pc : MicroPc) (s : State) : MicroState :=
  match pc with
  | .e0 => if s.ra = 0#64 ∨ s.rc ≤ 1#64 then ⟨.done, s.endCommand .none 0#64⟩ else ⟨.e1, s⟩
  | .e1 => if s.rb = 0#64 then ⟨.done, s.endCommand .none 1#64⟩ else ⟨.e2, s⟩
  | .e2 => ⟨.e3, s.withWork { s.work with bit := BitVec.ofNat 6 (msb s.rb), acc := modFn s.ra s.rc }⟩
  | .e3 => if s.work.bit = 0#6 then ⟨.done, s.endCommand .none s.work.acc⟩ else ⟨.e4, s⟩
  | .e4 => ⟨.e5, s.withWork { s.work with bit := s.work.bit - 1#6 }⟩
  | .e5 => ⟨.e6, s.withWork { s.work with acc := mulModFn s.work.acc s.work.acc s.rc }⟩
  | .e6 =>
    if s.rb.getLsbD s.work.bit.toNat then
      ⟨.e7, s.withWork { s.work with acc := mulModFn s.work.acc s.ra s.rc }⟩
    else ⟨.e7, s⟩
  | .e7 => ⟨.e3, s⟩
  | _ => ⟨.done, s⟩

/-- The micro-steps of ISPRP (R155), for given generator constants. -/
def microIsprp (g : GenConsts) (pc : MicroPc) (s : State) : MicroState :=
  match pc with
  | .p0 => if badCandidate s.ra then ⟨.done, s.faulted .badCandidate⟩ else ⟨.p1, s⟩
  | .p1 =>
    if low32 s.rb ≠ 0#32 ∧ s.seeded = false then
      ⟨.done, (s.withWork { s.work with kcnt := low32 s.rb }).faulted .unseeded⟩
    else ⟨.p2, s.withWork { s.work with kcnt := low32 s.rb }⟩
  | .p2 => ⟨.p3, s.withWork { s.work with n1 := s.ra - 1#64, d := s.ra - 1#64 }⟩
  | .p3 => if isOdd s.work.d then ⟨.p4, s⟩ else ⟨.p3, s.withWork { s.work with d := s.work.d >>> 1 }⟩
  | .p4 => if s.work.kcnt = 0#32 then ⟨.done, s.endCommand .none 1#64⟩ else ⟨.p5, s⟩
  | .p5 => ⟨.p6, s.withWork { s.work with kcnt := s.work.kcnt - 1#32 }⟩
  | .p6 => ⟨.p7 (drawFn g s.x s.y).out, s.withLanes (drawFn g s.x s.y).x (drawFn g s.x s.y).y⟩
  | .p7 lo => ⟨.p8 lo (drawFn g s.x s.y).out, s.withLanes (drawFn g s.x s.y).x (drawFn g s.x s.y).y⟩
  | .p8 lo hi => ⟨.p9, s.withWork { s.work with w := witnessFn lo hi s.ra }⟩
  | .p9 => ⟨.p10, s.withWork { s.work with xr := expModFn s.work.w s.work.d s.ra }⟩
  | .p10 =>
    if s.work.xr = 1#64 ∨ s.work.xr = s.work.n1 then ⟨.p11, s.withWork { s.work with rs := .passed }⟩
    else ⟨.p11, s.withWork { s.work with rs := .searching, t := s.work.d }⟩
  | .p11 => if s.work.rs = .searching then ⟨.p12, s⟩ else ⟨.p17, s⟩
  | .p12 => ⟨.p13, s.withWork { s.work with t := s.work.t <<< 1 }⟩
  | .p13 => if s.work.t = s.work.n1 then ⟨.p11, s.withWork { s.work with rs := .composite }⟩ else ⟨.p14, s⟩
  | .p14 => ⟨.p15, s.withWork { s.work with xr := mulModFn s.work.xr s.work.xr s.ra }⟩
  | .p15 => if s.work.xr = s.work.n1 then ⟨.p11, s.withWork { s.work with rs := .passed }⟩ else ⟨.p16, s⟩
  | .p16 => if s.work.xr = 1#64 then ⟨.p11, s.withWork { s.work with rs := .composite }⟩ else ⟨.p11, s⟩
  | .p17 => if s.work.rs = .composite then ⟨.done, s.endCommand .none 0#64⟩ else ⟨.p18, s⟩
  | .p18 => ⟨.p4, s⟩
  | _ => ⟨.done, s⟩

/-- One micro-step of whichever micro-program the position belongs to; nothing more happens once the command has ended. -/
def microStep (g : GenConsts) (m : MicroState) : MicroState :=
  match m.pc with
  | .m0 | .m1 | .m2 _ => microMulmod m.pc m.st
  | .e0 | .e1 | .e2 | .e3 | .e4 | .e5 | .e6 | .e7 => microExpmod m.pc m.st
  | .done => m
  | _ => microIsprp g m.pc m.st

/-- `n` micro-steps. -/
def microRun (g : GenConsts) : Nat → MicroState → MicroState
  | 0, m => m
  | n + 1, m => microRun g n (microStep g m)

end Sys2Proof.Machine
end

