-- ==== Sys2Proof/Safety.lean ====
section
/-!
DEFINITION. The terms claims are stated in: states that agree on everything the spec fixes, the contract under which a
command ends without a fault (spec 60_exceptions.md R171, R188), what a later command or a response can depend on
(10_state.md R20), and runs of commands one after another (20_memory.md R62).
-/

namespace Sys2Proof.Machine

/-- The two states hold the same in every register of R20 and in the model's inputs and wait count. The working registers and
the number of free values drawn are left out: they are unspecified (R34). -/
def State.agrees (s t : State) : Prop :=
  s.x = t.x ∧ s.y = t.y ∧ s.seeded = t.seeded ∧ s.flt = t.flt ∧ s.ph = t.ph
    ∧ s.op = t.op ∧ s.ra = t.ra ∧ s.rb = t.rb ∧ s.rc = t.rc
    ∧ s.rdata = t.rdata ∧ s.rcause = t.rcause
    ∧ s.inputs = t.inputs ∧ s.busyLeft = t.busyLeft

/-- A response as the host takes it (R72). -/
structure Response where
  cause : Nibble
  data : Word
  deriving DecidableEq, Repr

/-- The response in the latch (R28). -/
def State.response (s : State) : Response := ⟨s.rcause, s.rdata⟩

/-- The outcome is a next state whose registers agree with `t`. -/
def endsAs (o : Host.Outcome State Fault Refusal) (t : State) : Prop :=
  ∃ u, o = .next u ∧ u.agrees t

/-- The state `s` with the response of a normal end and the phase of one (R14, R55). -/
def State.answered (v : Word) (s : State) : State :=
  { s with rdata := v, rcause := 0#4, ph := .resp }

/-- The state `s` as a fault with cause `c` leaves it (R176). -/
def State.faultedWith (c : Nibble) (s : State) : State :=
  { s with flt := true, rdata := 0#64, rcause := c, ph := .resp }

/-- A legal candidate: odd and above 2 (R154, R161). -/
def LegalCandidate (n : Word) : Prop := 2 < n.toNat ∧ n.toNat % 2 = 1

/-- The contract of a command (R188): the conditions under which it raises no fault (R171 to R175, R187). -/
def Contract (i : Instr) (s : State) : Prop :=
  match i with
  | .seed1 _ => True
  | .seed2 _ _ => True
  | .next => s.seeded = true
  | .mulmod _ _ m => 1 < m.toNat
  | .expmod _ _ _ => True
  | .isprp n k => LegalCandidate n ∧ (k = 0#32 ∨ s.seeded = true)

/-- The cause a command outside its contract reports (R171), by priority (R177). -/
def causeOutsideContract (i : Instr) : Nibble :=
  match i with
  | .mulmod _ _ _ => 2#4
  | .isprp n _ => if 2 < n.toNat ∧ n.toNat % 2 = 1 then 4#4 else 3#4
  | .next => 4#4
  | .seed1 _ => 0#4
  | .seed2 _ _ => 0#4
  | .expmod _ _ _ => 0#4

/-- The same in everything a later command or a response can depend on (R20): the flags and the phase; the lanes once
seeded; the command latch while a command is held; the response latch while a response waits; and, of the model's own,
the host's inputs, the wait count and the number of free values drawn. -/
def State.sameArch (s t : State) : Prop :=
  s.seeded = t.seeded ∧ s.flt = t.flt ∧ s.ph = t.ph
    ∧ (s.seeded = true → s.x = t.x ∧ s.y = t.y)
    ∧ (s.ph ≠ .idle → s.op = t.op ∧ s.ra = t.ra ∧ s.rb = t.rb ∧ s.rc = t.rc)
    ∧ (s.ph = .resp → s.rdata = t.rdata ∧ s.rcause = t.rcause)
    ∧ s.inputs = t.inputs ∧ s.busyLeft = t.busyLeft ∧ s.fresh = t.fresh

/-- The responses of a program: its commands run in order, each to completion (R62, R80). -/
def responses : List Instr → State → List Response
  | [], _ => []
  | i :: rest, s =>
    match exec i s with
    | .next t => t.response :: responses rest t
    | .fault _ => []
    | .refused _ => []

/-- The state a program's commands leave, each run to completion. -/
def finalState : List Instr → State → State
  | [], s => s
  | i :: rest, s =>
    match exec i s with
    | .next t => finalState rest t
    | .fault _ => s
    | .refused _ => s

/-- The responses to the NEXT commands of a program alone: the sequence R108 speaks of. -/
def nextOutputs : List Instr → State → List Response
  | [], _ => []
  | i :: rest, s =>
    match exec i s with
    | .next t => if i = .next then t.response :: nextOutputs rest t else nextOutputs rest t
    | .fault _ => []
    | .refused _ => []

/-- Is it MULMOD or EXPMOD, the commands that touch no generator state (R60)? -/
def isArithmetic : Instr → Bool
  | .mulmod _ _ _ => true
  | .expmod _ _ _ => true
  | .seed1 _ => false
  | .seed2 _ _ => false
  | .next => false
  | .isprp _ _ => false

/-- The lanes reached by `n` draws (R104). -/
def lanesAfter (g : GenConsts) : Nat → Word → Word → Word × Word
  | 0, x, y => (x, y)
  | n + 1, x, y => lanesAfter g n (drawFn g x y).x (drawFn g x y).y

/-- The output of draw number `j`, counted from 0, from the lanes `x`, `y`. -/
def drawnOutput (g : GenConsts) (j : Nat) (x y : Word) : Half :=
  (drawFn g (lanesAfter g j x y).1 (lanesAfter g j x y).2).out

/-- The witness of round number `j`, counted from 0: from draws `2j` and `2j + 1` (R151, R156). -/
def witnessAt (g : GenConsts) (n : Word) (j : Nat) (x y : Word) : Word :=
  witnessFn (drawnOutput g (2 * j) x y) (drawnOutput g (2 * j + 1) x y) n

/-- `n` rising edges. -/
def steps : Nat → State → Host.Outcome State Fault Refusal
  | 0, s => .next s
  | n + 1, s =>
    match step s with
    | .next t => steps n t
    | .fault r => .fault r
    | .refused r => .refused r

/-- The invariant of a waiting response (R72, R73, R176): its cause is one of the five, and a fault's response has `DATA = 0`
and has set the sticky flag. -/
def State.Inv (s : State) : Prop :=
  s.ph = .resp → s.rcause.toNat ≤ 4 ∧ (s.rcause ≠ 0#4 → s.rdata = 0#64 ∧ s.flt = true)

/-- The next `n` edges bring no reset. -/
def State.noReset (s : State) (n : Nat) : Prop :=
  ∀ inp ∈ s.inputs.take n, inp.rst = false

end Sys2Proof.Machine
end

