-- ==== Sys2Proof/Certificates/Slice0/Obligations.lean ====
section
/-!
DEFINITION. The statements for the provers, each from the numbered rules of spec/ its docstring names.
-/

open Sys2Proof Sys2Proof.Machine

/-! ### Encoding (30_encoding.md) -/

/-- Words written out from the encoding vectors of 95_test_vectors.md section 6 decode to the commands they stand for. -/
def Obligations.SpecWordsDecode : Prop :=
  decode 0x1000000000000000000000000000000000000000000000007#196 = .ok (.seed1 7#32)
    ∧ decode 0x20000000000000000000000001234567800000000deadbeef#196 = .ok (.seed2 0xdeadbeef#32 0x12345678#32)
    ∧ decode 0x3000000000000000000000000000000000000000000000000#196 = .ok .next
    ∧ decode 0x4000000000000000700000000000000050000000000000003#196 = .ok (.mulmod 3#64 5#64 7#64)
    ∧ decode 0x50000000000000007000000000000000d0000000000000003#196 = .ok (.expmod 3#64 13#64 7#64)
    ∧ decode 0x6000000000000000000000000000000140000000000000155#196 = .ok (.isprp 341#64 20#32)
    ∧ decode 0x3ffffffffffffffff5555555555555555aaaaaaaaaaaaaaaa#196 = .ok .next
    ∧ decode 0x60000000000000001ffffffff000000050000000000000155#196 = .ok (.isprp 341#64 5#32)
    ∧ decode 0x0000000000000000000000000000000000000000000000000#196 = .error (.illegalOp 0x0#4)
    ∧ decode 0x70000000000009abc00000000000056780000000000001234#196 = .error (.illegalOp 0x7#4)
    ∧ decode 0xfffffffffffffffffffffffffffffffffffffffffffffffff#196 = .error (.illegalOp 0xf#4)

/-- R75: decoding reads exactly the bits of the format: a word decodes to a command when its used bits are those
of the command's encoding, whatever its other bits are; so decode and encode agree on every command. -/
def Obligations.DecodeEncodeAgree : Prop :=
  (∀ i : Instr, decode (encode i) = .ok i)
    ∧ ∀ (w : CmdWord) (i : Instr), decode w = .ok i ↔ w &&& usedBits i = encode i

/-- R83: every word decodes to a command or to ILLEGAL_OP, and OP alone decides which of the seven. -/
def Obligations.DecodeTotalByOpcode : Prop :=
  ∀ w : CmdWord,
    ((∃ i, decode w = .ok i) ∨ decode w = .error (.illegalOp (opField w)))
      ∧ (decode w = .error (.illegalOp (opField w)) ↔ (opField w).toNat = 0 ∨ 7 ≤ (opField w).toNat)
      ∧ ∀ i, decode w = .ok i → i.opcode = opField w

/-- R74, last sentence: the opcode map as match and mask; no word is claimed by two rows. -/
def Obligations.OpcodeTableIsTheDecoder : Prop :=
  (∀ r ∈ opcodeTable, ∀ w : CmdWord, r.hits w = true ↔ ∃ i, decode w = .ok i ∧ i.mnemonic = r.mnemonic)
    ∧ ∀ r ∈ opcodeTable, ∀ r' ∈ opcodeTable, ∀ w : CmdWord, r.hits w = true → r'.hits w = true → r = r'

/-- R76: each operand is a field of the word taken as an unsigned integer, a 32-bit one the low half of its field; bits the
format does not use change neither the response nor the end state (the latch itself aside). -/
def Obligations.OperandsReadAndUnusedBitsIgnored : Prop :=
  (∀ (s : State) (w w' : CmdWord) (i : Instr), decode w = .ok i → w' &&& usedBits i = w &&& usedBits i →
      ∃ t t', step (s.loadCommand w) = .next t ∧ step (s.loadCommand w') = .next t' ∧ (t'.latch w).agrees t)
    ∧ ∀ (w : CmdWord) (i : Instr), decode w = .ok i →
        match i with
        | .seed1 seed => seed.toNat = w.toNat % 2 ^ 32
        | .seed2 sx sy => sx.toNat = w.toNat % 2 ^ 32 ∧ sy.toNat = w.toNat / 2 ^ 64 % 2 ^ 32
        | .next => True
        | .mulmod a b m =>
          a.toNat = w.toNat % 2 ^ 64 ∧ b.toNat = w.toNat / 2 ^ 64 % 2 ^ 64 ∧ m.toNat = w.toNat / 2 ^ 128 % 2 ^ 64
        | .expmod b e m =>
          b.toNat = w.toNat % 2 ^ 64 ∧ e.toNat = w.toNat / 2 ^ 64 % 2 ^ 64 ∧ m.toNat = w.toNat / 2 ^ 128 % 2 ^ 64
        | .isprp n k => n.toNat = w.toNat % 2 ^ 64 ∧ k.toNat = w.toNat / 2 ^ 64 % 2 ^ 32

/-! ### The generator (40_prng.md) -/

/-- R100: the avalanche mix is exactly three rounds, each the shift-xor by 33 and then a multiply modulo `2^64`. -/
def Obligations.MixFnThreeRounds : Prop :=
  ∀ (g : GenConsts) (v : Word),
    ∃ v0 v1 : Nat,
      v0 = (v.toNat ^^^ v.toNat / 2 ^ 33) * g.mixC0.toNat % 2 ^ 64
        ∧ v1 = (v0 ^^^ v0 / 2 ^ 33) * g.mixC1.toNat % 2 ^ 64
        ∧ (mixFn g v).toNat = (v1 ^^^ v1 / 2 ^ 33) * g.mixC2.toNat % 2 ^ 64

/-- R101, R102, R104, R109: a draw steps both lanes exactly, with no bit lost, and its output is the wrapping sum of the new low
halves. -/
def Obligations.DrawArithmeticExact : Prop :=
  ∀ (g : GenConsts) (x y : Word),
    (drawFn g x y).x.toNat = g.aX.toNat * (x.toNat % 2 ^ 32) + x.toNat / 2 ^ 32
      ∧ (drawFn g x y).y.toNat = g.aY.toNat * (y.toNat % 2 ^ 32) + y.toNat / 2 ^ 32
      ∧ g.aX.toNat * (x.toNat % 2 ^ 32) + x.toNat / 2 ^ 32 ≤ 2 ^ 64 - 2 ^ 32
      ∧ g.aY.toNat * (y.toNat % 2 ^ 32) + y.toNat / 2 ^ 32 ≤ 2 ^ 64 - 2 ^ 32
      ∧ (drawFn g x y).out.toNat
          = ((drawFn g x y).x.toNat % 2 ^ 32 + (drawFn g x y).y.toNat % 2 ^ 32) % 2 ^ 32

/-- R110: the two fixed points of a lane; the mix is a bijection that keeps 0, so a seed gives lane value 0 exactly when it
equals the lane's XOR constant, which needs a constant below `2^32`. -/
def Obligations.DegenerateLaneValues : Prop :=
  (∀ a : Half, laneFn a 0#64 = 0#64)
    ∧ (∀ (a : Half) (v : Word), a ≠ 0#32 → v.toNat = a.toNat * 2 ^ 32 - 1 → laneFn a v = v)
    ∧ ∀ g : GenConsts, g.wellFormed = true →
        Function.Bijective (mixFn g) ∧ mixFn g 0#64 = 0#64
          ∧ (∀ sx : Half, seedLaneX g sx = 0#64 ↔ zext64 sx ^^^ g.seedXorX = 0#64)
          ∧ (∀ sy : Half, seedLaneY g sy = 0#64 ↔ zext64 sy ^^^ g.seedXorY = 0#64)
          ∧ (2 ^ 32 ≤ g.seedXorX.toNat → ∀ sx : Half, seedLaneX g sx ≠ 0#64)
          ∧ (2 ^ 32 ≤ g.seedXorY.toNat → ∀ sy : Half, seedLaneY g sy ≠ 0#64)

/-- 40_prng.md R111 as far as it follows from R110: different seeds give different lanes. -/
def Obligations.SeedingIsInjective : Prop :=
  ∀ g : GenConsts, g.wellFormed = true →
    (∀ sx sx' : Half, seedLaneX g sx = seedLaneX g sx' → sx = sx')
      ∧ ∀ sy sy' : Half, seedLaneY g sy = seedLaneY g sy' → sy = sy'

/-- R103, R105: SEED2 replaces both lanes by the mixed seeds, sets SEEDED and responds 0, in any state, and changes nothing
else; the operand bits it reads; the worked examples. -/
def Obligations.Seed2Effect : Prop :=
  (∀ (sx sy : Half) (s : State),
      endsAs (exec (.seed2 sx sy) s)
        (({ s with
            x := mixFn consts (zext64 sx ^^^ consts.seedXorX)
            y := mixFn consts (zext64 sy ^^^ consts.seedXorY)
            seeded := true } : State).answered 0#64))
    ∧ (∀ a b c : Word, decodeFields 0x2#4 a b c = .ok (.seed2 (low32 a) (low32 b)))
    ∧ seedLaneX .refGk 1#32 = 0xce85e91c90e4d2d2#64 ∧ seedLaneY .refGk 0#32 = 0x2be211ec1ebe26b6#64
    ∧ seedLaneX .toy 1#32 = 0x0000001b00000006#64 ∧ seedLaneY .toy 0#32 = 0x000000360000001b#64

/-- R106: SEED1 seeds both lanes from one seed, exactly as SEED2 of that seed twice; the two lanes still differ; the worked
example. -/
def Obligations.Seed1Effect : Prop :=
  (∀ (seed : Half) (s : State), exec (.seed1 seed) s = exec (.seed2 seed seed) s)
    ∧ (∀ (seed : Half) (s : State),
        endsAs (exec (.seed1 seed) s)
          (({ s with
              x := mixFn consts (zext64 seed ^^^ consts.seedXorX)
              y := mixFn consts (zext64 seed ^^^ consts.seedXorY)
              seeded := true } : State).answered 0#64))
    ∧ (∀ a b c : Word, decodeFields 0x1#4 a b c = .ok (.seed1 (low32 a)))
    ∧ (∀ (g : GenConsts) (seed : Half), g.wellFormed = true → seedLaneX g seed ≠ seedLaneY g seed)
    ∧ seedLaneX .refGk 7#32 = 0xa36fafb73dbf8c95#64 ∧ seedLaneY .refGk 7#32 = 0x744538a726c622ff#64

/-- R107: NEXT of a seeded block steps both lanes once and responds the sum of the new low halves; unseeded it faults and
touches no lane; nothing else changes; the worked examples. -/
def Obligations.NextEffect : Prop :=
  (∀ s : State, s.seeded = true →
      ∃ x' y' v : Word,
        x'.toNat = consts.aX.toNat * (s.x.toNat % 2 ^ 32) + s.x.toNat / 2 ^ 32
          ∧ y'.toNat = consts.aY.toNat * (s.y.toNat % 2 ^ 32) + s.y.toNat / 2 ^ 32
          ∧ v.toNat = (x'.toNat % 2 ^ 32 + y'.toNat % 2 ^ 32) % 2 ^ 32
          ∧ endsAs (exec .next s) (({ s with x := x', y := y' } : State).answered v))
    ∧ (∀ s : State, s.seeded = false → endsAs (exec .next s) (s.faultedWith 4#4))
    ∧ (∀ a b c : Word, decodeFields 0x3#4 a b c = .ok .next)
    ∧ drawFn .refGk 0xce85e91c90e4d2d2#64 0x2be211ec1ebe26b6#64
        = ⟨0x90e333305a82821a#64, 0x1ebdcccf7aac3ee2#64, 0xd52ec0fc#32⟩
    ∧ drawFn .toy 0x0000001b00000006#64 0x000000360000001b#64
        = ⟨0x00000005ffff1e61#64, 0x0000001aff623fe9#64, 0xff615e4a#32⟩

/-- R108: after a seeding the responses of a program do not depend on the state before it; MULMOD and EXPMOD commands between
the draws do not change the sequence of NEXT outputs; ISPRP commands draw from the same stream. -/
def Obligations.SeededStreamDeterministic : Prop :=
  (∀ (p : List Instr) (sx sy : Half) (s s' : State),
      responses (.seed2 sx sy :: p) s = responses (.seed2 sx sy :: p) s')
    ∧ (∀ (p : List Instr) (seed : Half) (s s' : State),
        responses (.seed1 seed :: p) s = responses (.seed1 seed :: p) s')
    ∧ (∀ (p : List Instr) (s : State), nextOutputs p s = nextOutputs (p.filter fun i => !isArithmetic i) s)
    ∧ ∀ (n : Word) (k : Half) (s t : State), exec (.isprp n k) s = .next t →
        ∃ r, (t.x, t.y) = lanesAfter consts (2 * r) s.x s.y

/-! ### Modular multiplication (41_mulmod.md) -/

/-- R130, R131, R132: MULMOD with `m > 1` responds the exact remainder of the full product, below `m`, and changes
nothing else; with `m <= 1` it faults BAD_MODULUS. -/
def Obligations.MulmodExactRemainder : Prop :=
  (∀ (a b m : Word) (s : State), 1 < m.toNat →
      ∃ v : Word, v.toNat = a.toNat * b.toNat % m.toNat ∧ v.toNat < m.toNat
        ∧ endsAs (exec (.mulmod a b m) s) (s.answered v))
    ∧ (∀ (a b m : Word) (s : State), m.toNat ≤ 1 → endsAs (exec (.mulmod a b m) s) (s.faultedWith 2#4))
    ∧ ∀ a b c : Word, decodeFields 0x4#4 a b c = .ok (.mulmod a b c)

/-- R134: the laws of the modular product. -/
def Obligations.ModularProductLaws : Prop :=
  ∀ a b c m : Word, 1 < m.toNat →
    mulModFn a b m = mulModFn b a m
      ∧ mulModFn a b m = mulModFn (modFn a m) (modFn b m) m
      ∧ mulModFn a 1#64 m = modFn a m
      ∧ mulModFn a 0#64 m = 0#64
      ∧ mulModFn (mulModFn a b m) c m = mulModFn a (mulModFn b c m) m
      ∧ (mulModFn (mulModFn a b m) c m).toNat = a.toNat * b.toNat * c.toNat % m.toNat

/-- R133: the restoring division keeps its invariant at every bit and gives the function of R130. -/
def Obligations.SerialReductionExact : Prop :=
  (∀ (m : Word) (prod : Wide) (i : Nat) (rem : BitVec 65), 1 < m.toNat → i < 128 →
      rem.toNat = prod.toNat / 2 ^ (i + 1) % m.toNat →
        (reduceStep m (prod.getLsbD i) rem).toNat = prod.toNat / 2 ^ i % m.toNat
          ∧ (reduceStep m (prod.getLsbD i) rem).toNat < m.toNat
          ∧ 2 * rem.toNat + 1 ≤ 2 ^ 65 - 3)
    ∧ ∀ a b m : Word, 1 < m.toNat → mulModSerial a b m = mulModFn a b m

/-! ### Modular exponentiation (42_expmod.md) -/

/-- R141, R144 (and the value of 42_expmod.md R140): EXPMOD responds 0 for a zero base or no modulus, else 1 for a zero exponent, else the exact power
modulo `m`; it never faults and changes nothing else. -/
def Obligations.ExpmodPower : Prop :=
  (∀ (b e m : Word) (s : State),
      ∃ v : Word,
        v.toNat
            = (if b.toNat = 0 ∨ m.toNat ≤ 1 then 0
               else if e.toNat = 0 then 1
               else b.toNat ^ e.toNat % m.toNat)
          ∧ endsAs (exec (.expmod b e m) s) (s.answered v))
    ∧ (∀ a b c : Word, decodeFields 0x5#4 a b c = .ok (.expmod a b c))
    ∧ msb (BitVec.allOnes 64) = 63 ∧ ∀ i < 64, (BitVec.allOnes 64).getLsbD i = true

/-- 42_expmod.md R143 (1) and (2): where square-and-multiply starts, and what every iteration keeps: the accumulator is the
power by the exponent's leading bits, and canonical. -/
def Obligations.SquareAndMultiplyInvariant : Prop :=
  ∀ b e m : Word, 1 < m.toNat → e ≠ 0#64 →
    (msb e ≤ 63 ∧ e.toNat / 2 ^ msb e = 1
        ∧ (modFn b m).toNat = b.toNat ^ (e.toNat / 2 ^ msb e) % m.toNat)
      ∧ ∀ (i : Nat) (acc : Word), i < msb e → acc.toNat = b.toNat ^ (e.toNat / 2 ^ (i + 1)) % m.toNat →
          (expStep b m (e.getLsbD i) acc).toNat = b.toNat ^ (e.toNat / 2 ^ i) % m.toNat
            ∧ (expStep b m (e.getLsbD i) acc).toNat < m.toNat

/-! ### The Rabin-Miller controller (43_rabin_miller.md) -/

/-- R150: the strip loop leaves the odd part of `n - 1`. -/
def Obligations.StripFnOddPart : Prop :=
  ∀ n : Word, LegalCandidate n →
    ∃ s, 1 ≤ s ∧ s ≤ 63 ∧ (stripFn n).toNat % 2 = 1 ∧ 1 ≤ (stripFn n).toNat
      ∧ n.toNat - 1 = (stripFn n).toNat * 2 ^ s

/-- R151: the witness is the two outputs, first one low, reduced below the candidate. -/
def Obligations.WitnessAssembly : Prop :=
  ∀ (o1 o2 : Half) (n : Word), 0 < n.toNat →
    (witnessFn o1 o2 n).toNat = (o2.toNat * 2 ^ 32 + o1.toNat) % n.toNat
      ∧ (witnessFn o1 o2 n).toNat < n.toNat

/-- 43_rabin_miller.md R158, R33: both loops end by themselves for every legal candidate, so the model's iteration limit (log 11,
DEDUCED) never shows: a larger limit gives the same result and a round is never left undecided. -/
def Obligations.LoopsEndWithinTheirBounds : Prop :=
  ∀ n : Word, LegalCandidate n →
    (∀ f, stripLoop (64 + f) (n - 1#64) = stripFn n)
      ∧ ∀ a : Word,
          (roundFn n (stripFn n) a = .passed ∨ roundFn n (stripFn n) a = .composite)
            ∧ ∀ f, roundLoop n (64 + f) (stripFn n) a = roundLoop n 64 (stripFn n) a

/-- R162: what one round decides, in closed form, with `n - 1 = d * 2^s`. -/
def Obligations.RoundClosedForm : Prop :=
  ∀ (n a : Word) (s : Nat), LegalCandidate n → n.toNat - 1 = (stripFn n).toNat * 2 ^ s →
    (1 ≤ a.toNat → a.toNat ≤ n.toNat - 1 →
        (roundFn n (stripFn n) a = .passed
            ↔ a.toNat ^ (stripFn n).toNat % n.toNat = 1
              ∨ ∃ j < s, a.toNat ^ ((stripFn n).toNat * 2 ^ j) % n.toNat = n.toNat - 1)
          ∧ (roundFn n (stripFn n) a ≠ .passed → roundFn n (stripFn n) a = .composite))
      ∧ (a = 0#64 → roundFn n (stripFn n) a = .composite)

/-- 43_rabin_miller.md R159 with the strong-probable-prime property the spec takes from general knowledge (G3): a prime
candidate passes every round whose witness is not 0, so ISPRP answers composite for a prime only when the last round it ran,
the one whose two draws left the lanes as they end, had the witness 0. -/
def Obligations.CompositeOfPrimeOnlyByZeroWitness : Prop :=
  (∀ n a : Word, n.toNat.Prime → 2 < n.toNat → 1 ≤ a.toNat → a.toNat ≤ n.toNat - 1 →
      roundFn n (stripFn n) a = .passed)
    ∧ ∀ (n : Word) (k : Half) (s t : State), n.toNat.Prime → 2 < n.toNat →
        exec (.isprp n k) s = .next t → t.rcause = 0#4 → t.rdata = 0#64 →
          ∃ j < k.toNat, (t.x, t.y) = lanesAfter consts (2 * (j + 1)) s.x s.y
            ∧ witnessAt consts n j s.x s.y = 0#64

/-- R157: with `k == 0` and a legal candidate ISPRP answers 1, seeded or not, draws nothing and changes nothing else;
an illegal candidate faults all the same. -/
def Obligations.IsprpZeroRounds : Prop :=
  (∀ (n : Word) (s : State), LegalCandidate n → endsAs (exec (.isprp n 0#32) s) (s.answered 1#64))
    ∧ ∀ (n : Word) (s : State), ¬ LegalCandidate n → endsAs (exec (.isprp n 0#32) s) (s.faultedWith 3#4)

/-- R153, R154, R156: a legal ISPRP runs rounds 1, 2, ... and stops at the first COMPOSITE one, or answers 1 when all
`k` passed; it advances the generator by two draws a round run, and changes nothing else; its two faults come before any
draw; the worked example. -/
def Obligations.IsprpRoundsAndDraws : Prop :=
  (∀ (n : Word) (k : Half) (s : State), LegalCandidate n → (k = 0#32 ∨ s.seeded = true) →
      ∃ (r : Nat) (v : Word), r ≤ k.toNat
        ∧ endsAs (exec (.isprp n k) s)
            (({ s with
                x := (lanesAfter consts (2 * r) s.x s.y).1
                y := (lanesAfter consts (2 * r) s.x s.y).2 } : State).answered v)
        ∧ ((v = 1#64 ∧ r = k.toNat
              ∧ ∀ j < k.toNat, roundFn n (stripFn n) (witnessAt consts n j s.x s.y) = .passed)
            ∨ (v = 0#64 ∧ 1 ≤ r
              ∧ roundFn n (stripFn n) (witnessAt consts n (r - 1) s.x s.y) = .composite
              ∧ ∀ j < r - 1, roundFn n (stripFn n) (witnessAt consts n j s.x s.y) = .passed)))
    ∧ (∀ (n : Word) (k : Half) (s : State), ¬ LegalCandidate n →
        endsAs (exec (.isprp n k) s) (s.faultedWith 3#4))
    ∧ (∀ (n : Word) (k : Half) (s : State), LegalCandidate n → k ≠ 0#32 → s.seeded = false →
        endsAs (exec (.isprp n k) s) (s.faultedWith 4#4))
    ∧ (∀ a b c : Word, decodeFields 0x6#4 a b c = .ok (.isprp a (low32 b)))
    ∧ isPrpFn .refGk 341#64 20#32 0xce85e91c90e4d2d2#64 0x2be211ec1ebe26b6#64
        = ⟨false, 0x5a817e78e87d6c26#64, 0x7aaad826a6066671#64⟩

/-- 70_reset_and_hazards.md R211: verdict and new lanes are a function of the operands and the lanes at the start, whatever else
the two states hold. -/
def Obligations.VerdictFunctionOfLanes : Prop :=
  ∀ (n : Word) (k : Half) (s s' : State), s.x = s'.x → s.y = s'.y → s.seeded = s'.seeded →
    ∃ t t', exec (.isprp n k) s = .next t ∧ exec (.isprp n k) s' = .next t'
      ∧ t.response = t'.response ∧ t.x = t'.x ∧ t.y = t'.y ∧ t.seeded = t'.seeded

/-! ### Faults (60_exceptions.md) -/

/-- R173, R174, R175, R176, R187: within its contract a command ends with cause NONE and the sticky flag as it
was; outside it, with the one cause of its row, DATA 0, the sticky flag set and nothing else written. -/
def Obligations.FaultCausesAsTabled : Prop :=
  ∀ (i : Instr) (s : State),
    (Contract i s → ∃ t, exec i s = .next t ∧ t.rcause = 0#4 ∧ t.flt = s.flt ∧ t.ph = .resp)
      ∧ (¬ Contract i s → causeOutsideContract i ≠ 0#4 ∧ endsAs (exec i s) (s.faultedWith (causeOutsideContract i)))

/-- R77, R172: a word is accepted whatever its opcode is; a reserved opcode ends with ILLEGAL_OP whatever its operands are, and
changes nothing but FLT, the response latch and the phase. -/
def Obligations.IllegalOpcodeFaults : Prop :=
  (∀ s : State, s.nextInput.rst = false → s.ph = .idle → s.nextInput.cmdValid = true →
      ∃ t, step s = .next t ∧ t.ph = .busy ∧ t.latched = decode s.nextInput.cmdWord)
    ∧ ∀ s : State, s.nextInput.rst = false → s.ph = .busy → s.busyLeft = 0 →
        (s.op.toNat = 0 ∨ 7 ≤ s.op.toNat) → endsAs (step s) (s.clocked.faultedWith 1#4)

/-- R179: an earlier fault affects no later command: no command reads FLT, and the responses after a faulted command are those
without it. -/
def Obligations.FaultsLeaveNoTrace : Prop :=
  (∀ (p : List Instr) (s : State) (b : Bool), responses p { s with flt := b } = responses p s)
    ∧ ∀ (p : List Instr) (i : Instr) (s t : State), ¬ Contract i s → exec i s = .next t →
        responses p t = responses p s ∧ t.takeResponse.ph = .idle

/-- 60_exceptions.md R188: for a run that starts without a recorded fault, the sticky flag at its end is clear exactly when no
response had a cause. -/
def Obligations.CleanRunIffNoCause : Prop :=
  ∀ (p : List Instr) (s : State), s.flt = false →
    ((finalState p s).flt = false ↔ ∀ r ∈ responses p s, r.cause = 0#4)

/-! ### Clock edges (20_memory.md, 70_reset_and_hazards.md) -/

/-- The edge that ends a command is exec of the command in the latch, the inputs sampled (10_state.md R25, 20_memory.md R55).
The second clause is about the model's own withFetchWord, which places a word so that the very next step is that edge: the
model's choice (log 7, with `busyLeft = 0` of log 6), no rule of the spec. -/
def Obligations.StepRunsLatchedCommand : Prop :=
  (∀ (s : State) (i : Instr), s.nextInput.rst = false → s.ph = .busy → s.busyLeft = 0 → s.latched = .ok i →
      step s = exec i s.clocked)
    ∧ ∀ (s : State) (nbits w : Nat) (i : Instr), decodeTableWord nbits w = some i →
        step (s.withFetchWord nbits w) = exec i (s.withFetchWord nbits w).clocked

/-- R53: what an edge does with the command channel: accept in IDLE with a valid word, whatever the word is; nothing in IDLE
without; ignored otherwise. -/
def Obligations.AcceptEdge : Prop :=
  (∀ s : State, s.nextInput.rst = false → s.ph = .idle → s.nextInput.cmdValid = true →
      ∃ t, step s = .next t
        ∧ t.agrees { s with
            op := s.nextInput.cmdWord.extractLsb' 192 4
            rc := s.nextInput.cmdWord.extractLsb' 128 64
            rb := s.nextInput.cmdWord.extractLsb' 64 64
            ra := s.nextInput.cmdWord.extractLsb' 0 64
            ph := .busy
            inputs := s.inputs.tail
            busyLeft := t.busyLeft })
    ∧ (∀ s : State, s.nextInput.rst = false → s.ph = .idle → s.nextInput.cmdValid = false → step s = .next s.clocked)
    ∧ ∀ (s : State) (inp inp' : EdgeInput) (rest : List EdgeInput), s.ph ≠ .idle → inp.rst = inp'.rst →
        inp.rspReady = inp'.rspReady →
          step { s with inputs := inp :: rest } = step { s with inputs := inp' :: rest }

/-- R54: while a response waits it is on `rsp_word` and stable; a ready host takes it, with no effect but the phase. -/
def Obligations.TakeEdge : Prop :=
  (∀ s : State, s.ph = .resp → s.rspValid = true ∧ s.rspWord = s.rcause ++ s.rdata)
    ∧ (∀ s : State, s.nextInput.rst = false → s.ph = .resp → s.nextInput.rspReady = true →
        endsAs (step s) { s with ph := .idle, inputs := s.inputs.tail })
    ∧ ∀ s : State, s.nextInput.rst = false → s.ph = .resp → s.nextInput.rspReady = false →
        ∃ t, step s = .next t ∧ t.agrees { s with inputs := s.inputs.tail } ∧ t.rspWord = s.rspWord

/-- 20_memory.md R55, first sentence, with the condition of each move: the phase moves only IDLE, BUSY, RESP, IDLE. -/
def Obligations.PhaseMoves : Prop :=
  ∀ s t : State, s.nextInput.rst = false → step s = .next t →
    (s.ph = .idle → t.ph = if s.nextInput.cmdValid then .busy else .idle)
      ∧ (s.ph = .busy → t.ph = if s.busyLeft = 0 then .resp else .busy)
      ∧ (s.ph = .resp → t.ph = if s.nextInput.rspReady then .idle else .resp)

/-- 20_memory.md R68: a command in BUSY reaches RESP after finitely many edges, whatever its operands, if no reset comes; it stays
in BUSY until then. That the count stands in `busyLeft` is the model's choice (log 6). -/
def Obligations.EveryCommandEnds : Prop :=
  ∀ s : State, s.ph = .busy → s.noReset (s.busyLeft + 1) →
    (∃ t, steps (s.busyLeft + 1) s = .next t ∧ t.ph = .resp)
      ∧ ∀ m ≤ s.busyLeft, ∃ t, steps m s = .next t ∧ t.ph = .busy

/-- 00_scope.md R6, 20_memory.md R55, R60, R62: an accepted command is one atomic transition: from the accepting edge on, after finitely many edges the
response waits, and the lanes, the flags and the response are those of the command's meaning in the state at accept; for a word with a reserved opcode, those of the ILLEGAL_OP fault
(30_encoding.md R77). The number of edges is a free value (log 6). -/
def Obligations.CommandIsOneTransition : Prop :=
  ∀ s : State, s.ph = .idle → s.nextInput.cmdValid = true → (∀ inp ∈ s.inputs, inp.rst = false) →
    ∃ (n : Nat) (t : State), steps (n + 2) s = .next t ∧ t.ph = .resp
      ∧ (∀ i, decode s.nextInput.cmdWord = .ok i →
          ∃ u, exec i s = .next u ∧ t.x = u.x ∧ t.y = u.y ∧ t.seeded = u.seeded ∧ t.flt = u.flt
            ∧ t.rcause = u.rcause ∧ t.rdata = u.rdata)
      ∧ (∀ e, decode s.nextInput.cmdWord = .error e →
          t.x = s.x ∧ t.y = s.y ∧ t.seeded = s.seeded ∧ t.flt = true ∧ t.rcause = 1#4 ∧ t.rdata = 0#64)

/-- R52, R200, R202: an edge with reset takes the reset transition in every phase and with every other input; reset is the only
input that acts in BUSY; in the next cycle the block is ready and offers no response, and nothing of the state before can be observed any more. -/
def Obligations.ResetEdge : Prop :=
  (∀ s : State, s.nextInput.rst = true →
      ∃ t, step s = .next t ∧ t.ph = .idle ∧ t.seeded = false ∧ t.flt = false
        ∧ t.cmdReady = true ∧ t.rspValid = false ∧ t.inputs = s.inputs.tail)
    ∧ (∀ (s : State) (inp inp' : EdgeInput) (rest : List EdgeInput), inp.rst = true → inp'.rst = true →
        step { s with inputs := inp :: rest } = step { s with inputs := inp' :: rest })
    ∧ (∀ (s : State) (inp inp' : EdgeInput) (rest : List EdgeInput), s.ph = .busy → inp.rst = inp'.rst →
        step { s with inputs := inp :: rest } = step { s with inputs := inp' :: rest })
    ∧ ∀ s s' : State, s.nextInput.rst = true → s'.inputs = s.inputs → s'.fresh = s.fresh →
        ∃ t t', step s = .next t ∧ step s' = .next t' ∧ t.sameArch t'

/-- R201: the three registers the spec gives a reset value. -/
def Obligations.ResetValues : Prop :=
  State.reset.ph = .idle ∧ State.reset.seeded = false ∧ State.reset.flt = false
    ∧ State.reset.cmdReady = true ∧ State.reset.rspValid = false

/-! ### Whole-machine rules -/

/-- Every state has a next one: the decoder is total and every command and every edge has its effect (30_encoding.md R77, R83,
20_memory.md R53 to R55, 60_exceptions.md R170). -/
def Obligations.StepNeverStops : Prop :=
  (∀ s : State, ∃ t, step s = .next t) ∧ ∀ (i : Instr) (s : State), ∃ t, exec i s = .next t ∧ t.ph = .resp

/-- 10_state.md R24, R26: both flags are sticky but for reset; FLT is set by exactly the edges that end a command
with a non-zero cause, SEEDED by exactly those that end SEED1 or SEED2. -/
def Obligations.FlagsSetOnlyAsRuled : Prop :=
  ∀ s t : State, s.nextInput.rst = false → step s = .next t →
    (t.flt = true ↔ s.flt = true ∨ (s.ph = .busy ∧ s.busyLeft = 0 ∧ t.rcause ≠ 0#4))
      ∧ (t.seeded = true ↔ s.seeded = true ∨ (s.ph = .busy ∧ s.busyLeft = 0 ∧ (s.op = 1#4 ∨ s.op = 2#4)))

/-- 10_state.md section 2 (R21, R22): without a reset the lanes change only at the edge that ends SEED1, SEED2, NEXT or ISPRP. -/
def Obligations.LaneWriters : Prop :=
  ∀ s t : State, s.nextInput.rst = false → step s = .next t → (t.x ≠ s.x ∨ t.y ≠ s.y) →
    s.ph = .busy ∧ t.ph = .resp ∧ (s.op = 1#4 ∨ s.op = 2#4 ∨ s.op = 3#4 ∨ s.op = 6#4)

/-- 10_state.md R27, and R28: the command latch is written only when a command is accepted and held until the response has been taken; the
response latch is written only when a command ends, and driven on `rsp_word` while the response waits. -/
def Obligations.LatchesHeld : Prop :=
  ∀ s t : State, s.nextInput.rst = false → step s = .next t →
    ((t.op ≠ s.op ∨ t.ra ≠ s.ra ∨ t.rb ≠ s.rb ∨ t.rc ≠ s.rc) → s.ph = .idle ∧ t.ph = .busy)
      ∧ ((t.rdata ≠ s.rdata ∨ t.rcause ≠ s.rcause) → s.ph = .busy ∧ t.ph = .resp)
      ∧ (t.ph = .resp → t.rspWord = t.rcause ++ t.rdata)

/-- 30_encoding.md R72, R73, 60_exceptions.md R176 over every step: a waiting response has one of the five causes, and a fault's response has DATA 0 and the
sticky flag set. -/
def Obligations.ResponseInvariantKept : Prop :=
  ∀ s t : State, s.Inv → step s = .next t → t.Inv

/-- The same invariant at reset. -/
def Obligations.ResponseInvariantAtReset : Prop :=
  State.reset.Inv ∧ ∀ inputs : List EdgeInput, ({ State.reset with inputs := inputs } : State).Inv

/-- From 10_state.md section 1, what a later command or a response can depend on, and two choices of the model. Two states that
are the same in it show the host the same outputs now and after every further edge, whatever their other registers hold: the
lanes before seeding, the latches out of phase, the working registers. No rule of the spec says two parts of this. That the two
spend the same time in BUSY (in the second and third clause) is the model's choice, log 6. That they show the same `rsp_word`
while it is not valid (in the first and third clause), whatever the stale latches hold, is the model's choice, log 17: R50 leaves
that word unspecified. -/
def Obligations.UnspecifiedNeverObserved : Prop :=
  (∀ s s' : State, s.sameArch s' → s.outputs = s'.outputs)
    ∧ (∀ s s' : State, s.sameArch s' → ∃ t t', step s = .next t ∧ step s' = .next t' ∧ t.sameArch t')
    ∧ ∀ (n : Nat) (s s' : State), s.sameArch s' →
        ∃ t t', steps n s = .next t ∧ steps n s' = .next t' ∧ t.outputs = t'.outputs

/-- 30_encoding.md R72 and the output rows of 20_memory.md R50: each port is its function of the registers; the lanes, SEEDED and the working registers
are on none of them (R37). For `rsp_word` while it is not valid the last is the model's choice, log 17: R50 leaves it unspecified. -/
def Obligations.OutputsFromRegisters : Prop :=
  (∀ s : State, (s.cmdReady = true ↔ s.ph = .idle) ∧ (s.rspValid = true ↔ s.ph = .resp) ∧ s.fltPort = s.flt
      ∧ (s.ph = .resp → rspCause s.rspWord = s.rcause ∧ rspData s.rspWord = s.rdata))
    ∧ ∀ (s : State) (x y : Word) (sd : Bool) (wk : Work),
        ({ s with x := x, y := y, seeded := sd, work := wk } : State).outputs = s.outputs

/-- The range of DATA at a normal end: for SEED1, SEED2, NEXT and ISPRP as 30_encoding.md R82 tables it; for MULMOD and EXPMOD
with `m > 1` below the modulus (41_mulmod.md R132, 42_expmod.md R143). -/
def Obligations.ResponseDataShape : Prop :=
  ∀ (i : Instr) (s t : State), exec i s = .next t → t.rcause = 0#4 →
    match i with
    | .seed1 _ => t.rdata = 0#64
    | .seed2 _ _ => t.rdata = 0#64
    | .next => t.rdata.toNat < 2 ^ 32
    | .mulmod _ _ m => t.rdata.toNat < m.toNat
    | .expmod _ _ m => 1 < m.toNat → t.rdata.toNat < m.toNat
    | .isprp _ _ => t.rdata = 0#64 ∨ t.rdata = 1#64

/-! ### The micro-steps are a refinement (00_scope.md R6) -/

/-- The reference reduction of 41_mulmod.md R133 as micro-steps of MULMOD, behind the guard of R131, which R133 does not have and
which the model puts before its first line (log 13, DESIGN CHOICE): from the latched operands and any working registers they
end in the response and the architectural state of the command's meaning, its fault included. -/
def Obligations.MulmodMicroRefines : Prop :=
  ∀ s : State, ∃ n t, microRun consts n ⟨.m0, s⟩ = ⟨.done, t⟩
    ∧ endsAs (exec (.mulmod s.ra s.rb s.rc) s) t

/-- R142: the micro-steps of EXPMOD, likewise. -/
def Obligations.ExpmodMicroRefines : Prop :=
  ∀ s : State, ∃ n t, microRun consts n ⟨.e0, s⟩ = ⟨.done, t⟩
    ∧ endsAs (exec (.expmod s.ra s.rb s.rc) s) t

/-- R155: the micro-steps of ISPRP, likewise. -/
def Obligations.IsprpMicroRefines : Prop :=
  ∀ s : State, ∃ n t, microRun consts n ⟨.p0, s⟩ = ⟨.done, t⟩
    ∧ endsAs (exec (.isprp s.ra (low32 s.rb)) s) t
end

