-- ==== Sys2Proof/Laws/Arith.lean ====
section
/-!
SUPPORT. What the slices and the arithmetic functions are as natural numbers (spec 00_scope.md R11, R12): each definition is
unfolded once, here.
-/

namespace Sys2Proof.Machine

@[simp] theorem low32_toNat (v : Word) : (low32 v).toNat = v.toNat % 2 ^ 32 := by
  simp [low32]

@[simp] theorem high32_toNat (v : Word) : (high32 v).toNat = v.toNat / 2 ^ 32 := by
  have h := v.isLt
  simp only [high32, BitVec.extractLsb'_toNat, Nat.shiftRight_eq_div_pow]
  omega

@[simp] theorem zext64_toNat (v : Half) : (zext64 v).toNat = v.toNat := by
  have h := v.isLt
  simp only [zext64, BitVec.toNat_setWidth]
  omega

@[simp] theorem concatHalves_toNat (hi lo : Half) :
    (concatHalves hi lo).toNat = hi.toNat * 2 ^ 32 + lo.toNat := by
  rw [concatHalves, BitVec.toNat_append, Nat.shiftLeft_eq, Nat.mul_comm,
    ← Nat.two_pow_add_eq_or_of_lt lo.isLt]

/-- The product of two words as R130 says it: no bit lost. -/
theorem exactProduct_toNat (a b : Word) : (exactProduct a b).toNat = a.toNat * b.toNat := by
  have h : a.toNat * b.toNat < 2 ^ 128 := by
    calc a.toNat * b.toNat < 2 ^ 64 * 2 ^ 64 := Nat.mul_lt_mul'' a.isLt b.isLt
      _ = 2 ^ 128 := by norm_num
  have ha := a.isLt
  have hb := b.isLt
  simp only [exactProduct, zext128, BitVec.toNat_mul, BitVec.toNat_setWidth]
  rw [Nat.mod_eq_of_lt (a := a.toNat) (by omega), Nat.mod_eq_of_lt (a := b.toNat) (by omega),
    Nat.mod_eq_of_lt h]

/-- `MulModFn` as a natural number. -/
theorem mulModFn_toNat (a b m : Word) (hm : 0 < m.toNat) :
    (mulModFn a b m).toNat = a.toNat * b.toNat % m.toNat := by
  have h := m.isLt
  have hlt := Nat.mod_lt (a.toNat * b.toNat) hm
  simp only [mulModFn, zext128, BitVec.toNat_setWidth, BitVec.toNat_umod, exactProduct_toNat]
  rw [Nat.mod_eq_of_lt (a := m.toNat) (by omega), Nat.mod_eq_of_lt (by omega)]

@[simp] theorem modFn_toNat (v n : Word) : (modFn v n).toNat = v.toNat % n.toNat := by
  simp [modFn]

/-- One mix round as a natural number. -/
theorem mixRound_toNat (c v : Word) :
    (mixRound c v).toNat = (v.toNat ^^^ v.toNat / 2 ^ 33) * c.toNat % 2 ^ 64 := by
  simp [mixRound, Nat.shiftRight_eq_div_pow]

/-- A word is odd when its number is. -/
theorem isOdd_iff (v : Word) : isOdd v = true ↔ v.toNat % 2 = 1 := by
  simp [isOdd, BitVec.getLsbD, Nat.testBit_zero]

/-- The candidate guard as numbers (R154). -/
theorem badCandidate_iff (n : Word) :
    badCandidate n = true ↔ ¬ (2 < n.toNat ∧ n.toNat % 2 = 1) := by
  have h := isOdd_iff n
  cases hb : isOdd n <;>
    simp_all [badCandidate, BitVec.le_def]

end Sys2Proof.Machine
end

