-- ==== Sys2Proof/Laws/State.lean ====
section
/-!
SUPPORT. One lemma per field per update of State, each true by rfl, so that no proof unfolds a record update.
-/

namespace Sys2Proof.Machine

/-! ### setSeeded -/

@[simp] theorem State.setSeeded_x (s : State) : (s.setSeeded).x = s.x := rfl
@[simp] theorem State.setSeeded_y (s : State) : (s.setSeeded).y = s.y := rfl
@[simp] theorem State.setSeeded_seeded (s : State) : (s.setSeeded).seeded = true := rfl
@[simp] theorem State.setSeeded_flt (s : State) : (s.setSeeded).flt = s.flt := rfl
@[simp] theorem State.setSeeded_ph (s : State) : (s.setSeeded).ph = s.ph := rfl
@[simp] theorem State.setSeeded_op (s : State) : (s.setSeeded).op = s.op := rfl
@[simp] theorem State.setSeeded_ra (s : State) : (s.setSeeded).ra = s.ra := rfl
@[simp] theorem State.setSeeded_rb (s : State) : (s.setSeeded).rb = s.rb := rfl
@[simp] theorem State.setSeeded_rc (s : State) : (s.setSeeded).rc = s.rc := rfl
@[simp] theorem State.setSeeded_rdata (s : State) : (s.setSeeded).rdata = s.rdata := rfl
@[simp] theorem State.setSeeded_rcause (s : State) : (s.setSeeded).rcause = s.rcause := rfl
@[simp] theorem State.setSeeded_work (s : State) : (s.setSeeded).work = s.work := rfl
@[simp] theorem State.setSeeded_inputs (s : State) : (s.setSeeded).inputs = s.inputs := rfl
@[simp] theorem State.setSeeded_busyLeft (s : State) : (s.setSeeded).busyLeft = s.busyLeft := rfl
@[simp] theorem State.setSeeded_fresh (s : State) : (s.setSeeded).fresh = s.fresh := rfl

/-! ### setFlt -/

@[simp] theorem State.setFlt_x (s : State) : (s.setFlt).x = s.x := rfl
@[simp] theorem State.setFlt_y (s : State) : (s.setFlt).y = s.y := rfl
@[simp] theorem State.setFlt_seeded (s : State) : (s.setFlt).seeded = s.seeded := rfl
@[simp] theorem State.setFlt_flt (s : State) : (s.setFlt).flt = true := rfl
@[simp] theorem State.setFlt_ph (s : State) : (s.setFlt).ph = s.ph := rfl
@[simp] theorem State.setFlt_op (s : State) : (s.setFlt).op = s.op := rfl
@[simp] theorem State.setFlt_ra (s : State) : (s.setFlt).ra = s.ra := rfl
@[simp] theorem State.setFlt_rb (s : State) : (s.setFlt).rb = s.rb := rfl
@[simp] theorem State.setFlt_rc (s : State) : (s.setFlt).rc = s.rc := rfl
@[simp] theorem State.setFlt_rdata (s : State) : (s.setFlt).rdata = s.rdata := rfl
@[simp] theorem State.setFlt_rcause (s : State) : (s.setFlt).rcause = s.rcause := rfl
@[simp] theorem State.setFlt_work (s : State) : (s.setFlt).work = s.work := rfl
@[simp] theorem State.setFlt_inputs (s : State) : (s.setFlt).inputs = s.inputs := rfl
@[simp] theorem State.setFlt_busyLeft (s : State) : (s.setFlt).busyLeft = s.busyLeft := rfl
@[simp] theorem State.setFlt_fresh (s : State) : (s.setFlt).fresh = s.fresh := rfl

/-! ### clearFlags -/

@[simp] theorem State.clearFlags_x (s : State) : (s.clearFlags).x = s.x := rfl
@[simp] theorem State.clearFlags_y (s : State) : (s.clearFlags).y = s.y := rfl
@[simp] theorem State.clearFlags_seeded (s : State) : (s.clearFlags).seeded = false := rfl
@[simp] theorem State.clearFlags_flt (s : State) : (s.clearFlags).flt = false := rfl
@[simp] theorem State.clearFlags_ph (s : State) : (s.clearFlags).ph = s.ph := rfl
@[simp] theorem State.clearFlags_op (s : State) : (s.clearFlags).op = s.op := rfl
@[simp] theorem State.clearFlags_ra (s : State) : (s.clearFlags).ra = s.ra := rfl
@[simp] theorem State.clearFlags_rb (s : State) : (s.clearFlags).rb = s.rb := rfl
@[simp] theorem State.clearFlags_rc (s : State) : (s.clearFlags).rc = s.rc := rfl
@[simp] theorem State.clearFlags_rdata (s : State) : (s.clearFlags).rdata = s.rdata := rfl
@[simp] theorem State.clearFlags_rcause (s : State) : (s.clearFlags).rcause = s.rcause := rfl
@[simp] theorem State.clearFlags_work (s : State) : (s.clearFlags).work = s.work := rfl
@[simp] theorem State.clearFlags_inputs (s : State) : (s.clearFlags).inputs = s.inputs := rfl
@[simp] theorem State.clearFlags_busyLeft (s : State) : (s.clearFlags).busyLeft = s.busyLeft := rfl
@[simp] theorem State.clearFlags_fresh (s : State) : (s.clearFlags).fresh = s.fresh := rfl

/-! ### latch -/

@[simp] theorem State.latch_x (w : CmdWord) (s : State) : (s.latch w).x = s.x := rfl
@[simp] theorem State.latch_y (w : CmdWord) (s : State) : (s.latch w).y = s.y := rfl
@[simp] theorem State.latch_seeded (w : CmdWord) (s : State) : (s.latch w).seeded = s.seeded := rfl
@[simp] theorem State.latch_flt (w : CmdWord) (s : State) : (s.latch w).flt = s.flt := rfl
@[simp] theorem State.latch_ph (w : CmdWord) (s : State) : (s.latch w).ph = s.ph := rfl
@[simp] theorem State.latch_op (w : CmdWord) (s : State) : (s.latch w).op = opField w := rfl
@[simp] theorem State.latch_ra (w : CmdWord) (s : State) : (s.latch w).ra = aField w := rfl
@[simp] theorem State.latch_rb (w : CmdWord) (s : State) : (s.latch w).rb = bField w := rfl
@[simp] theorem State.latch_rc (w : CmdWord) (s : State) : (s.latch w).rc = cField w := rfl
@[simp] theorem State.latch_rdata (w : CmdWord) (s : State) : (s.latch w).rdata = s.rdata := rfl
@[simp] theorem State.latch_rcause (w : CmdWord) (s : State) : (s.latch w).rcause = s.rcause := rfl
@[simp] theorem State.latch_work (w : CmdWord) (s : State) : (s.latch w).work = s.work := rfl
@[simp] theorem State.latch_inputs (w : CmdWord) (s : State) : (s.latch w).inputs = s.inputs := rfl
@[simp] theorem State.latch_busyLeft (w : CmdWord) (s : State) : (s.latch w).busyLeft = s.busyLeft := rfl
@[simp] theorem State.latch_fresh (w : CmdWord) (s : State) : (s.latch w).fresh = s.fresh := rfl

/-! ### forgetWork -/

@[simp] theorem State.forgetWork_x (s : State) : (s.forgetWork).x = s.x := rfl
@[simp] theorem State.forgetWork_y (s : State) : (s.forgetWork).y = s.y := rfl
@[simp] theorem State.forgetWork_seeded (s : State) : (s.forgetWork).seeded = s.seeded := rfl
@[simp] theorem State.forgetWork_flt (s : State) : (s.forgetWork).flt = s.flt := rfl
@[simp] theorem State.forgetWork_ph (s : State) : (s.forgetWork).ph = s.ph := rfl
@[simp] theorem State.forgetWork_op (s : State) : (s.forgetWork).op = s.op := rfl
@[simp] theorem State.forgetWork_ra (s : State) : (s.forgetWork).ra = s.ra := rfl
@[simp] theorem State.forgetWork_rb (s : State) : (s.forgetWork).rb = s.rb := rfl
@[simp] theorem State.forgetWork_rc (s : State) : (s.forgetWork).rc = s.rc := rfl
@[simp] theorem State.forgetWork_rdata (s : State) : (s.forgetWork).rdata = s.rdata := rfl
@[simp] theorem State.forgetWork_rcause (s : State) : (s.forgetWork).rcause = s.rcause := rfl
@[simp] theorem State.forgetWork_work (s : State) : (s.forgetWork).work = freeWork s.fresh := rfl
@[simp] theorem State.forgetWork_inputs (s : State) : (s.forgetWork).inputs = s.inputs := rfl
@[simp] theorem State.forgetWork_busyLeft (s : State) : (s.forgetWork).busyLeft = s.busyLeft := rfl
@[simp] theorem State.forgetWork_fresh (s : State) : (s.forgetWork).fresh = s.fresh + 1 := rfl

/-! ### endCommand -/

@[simp] theorem State.endCommand_x (c : Cause) (v : Word) (s : State) : (s.endCommand c v).x = s.x := rfl
@[simp] theorem State.endCommand_y (c : Cause) (v : Word) (s : State) : (s.endCommand c v).y = s.y := rfl
@[simp] theorem State.endCommand_seeded (c : Cause) (v : Word) (s : State) : (s.endCommand c v).seeded = s.seeded := rfl
@[simp] theorem State.endCommand_flt (c : Cause) (v : Word) (s : State) : (s.endCommand c v).flt = s.flt := rfl
@[simp] theorem State.endCommand_ph (c : Cause) (v : Word) (s : State) : (s.endCommand c v).ph = .resp := rfl
@[simp] theorem State.endCommand_op (c : Cause) (v : Word) (s : State) : (s.endCommand c v).op = s.op := rfl
@[simp] theorem State.endCommand_ra (c : Cause) (v : Word) (s : State) : (s.endCommand c v).ra = s.ra := rfl
@[simp] theorem State.endCommand_rb (c : Cause) (v : Word) (s : State) : (s.endCommand c v).rb = s.rb := rfl
@[simp] theorem State.endCommand_rc (c : Cause) (v : Word) (s : State) : (s.endCommand c v).rc = s.rc := rfl
@[simp] theorem State.endCommand_rdata (c : Cause) (v : Word) (s : State) : (s.endCommand c v).rdata = v := rfl
@[simp] theorem State.endCommand_rcause (c : Cause) (v : Word) (s : State) : (s.endCommand c v).rcause = c.code := rfl
@[simp] theorem State.endCommand_work (c : Cause) (v : Word) (s : State) : (s.endCommand c v).work = freeWork s.fresh := rfl
@[simp] theorem State.endCommand_inputs (c : Cause) (v : Word) (s : State) : (s.endCommand c v).inputs = s.inputs := rfl
@[simp] theorem State.endCommand_busyLeft (c : Cause) (v : Word) (s : State) : (s.endCommand c v).busyLeft = s.busyLeft := rfl
@[simp] theorem State.endCommand_fresh (c : Cause) (v : Word) (s : State) : (s.endCommand c v).fresh = s.fresh + 1 := rfl

/-! ### accept -/

@[simp] theorem State.accept_x (w : CmdWord) (s : State) : (s.accept w).x = s.x := rfl
@[simp] theorem State.accept_y (w : CmdWord) (s : State) : (s.accept w).y = s.y := rfl
@[simp] theorem State.accept_seeded (w : CmdWord) (s : State) : (s.accept w).seeded = s.seeded := rfl
@[simp] theorem State.accept_flt (w : CmdWord) (s : State) : (s.accept w).flt = s.flt := rfl
@[simp] theorem State.accept_ph (w : CmdWord) (s : State) : (s.accept w).ph = .busy := rfl
@[simp] theorem State.accept_op (w : CmdWord) (s : State) : (s.accept w).op = opField w := rfl
@[simp] theorem State.accept_ra (w : CmdWord) (s : State) : (s.accept w).ra = aField w := rfl
@[simp] theorem State.accept_rb (w : CmdWord) (s : State) : (s.accept w).rb = bField w := rfl
@[simp] theorem State.accept_rc (w : CmdWord) (s : State) : (s.accept w).rc = cField w := rfl
@[simp] theorem State.accept_rdata (w : CmdWord) (s : State) : (s.accept w).rdata = s.rdata := rfl
@[simp] theorem State.accept_rcause (w : CmdWord) (s : State) : (s.accept w).rcause = s.rcause := rfl
@[simp] theorem State.accept_work (w : CmdWord) (s : State) : (s.accept w).work = freeWork s.fresh := rfl
@[simp] theorem State.accept_inputs (w : CmdWord) (s : State) : (s.accept w).inputs = s.inputs := rfl
@[simp] theorem State.accept_busyLeft (w : CmdWord) (s : State) : (s.accept w).busyLeft = s.busyDraw w := rfl
@[simp] theorem State.accept_fresh (w : CmdWord) (s : State) : (s.accept w).fresh = s.fresh + 1 := rfl

/-! ### busyWait -/

@[simp] theorem State.busyWait_x (n : Nat) (s : State) : (s.busyWait n).x = s.x := rfl
@[simp] theorem State.busyWait_y (n : Nat) (s : State) : (s.busyWait n).y = s.y := rfl
@[simp] theorem State.busyWait_seeded (n : Nat) (s : State) : (s.busyWait n).seeded = s.seeded := rfl
@[simp] theorem State.busyWait_flt (n : Nat) (s : State) : (s.busyWait n).flt = s.flt := rfl
@[simp] theorem State.busyWait_ph (n : Nat) (s : State) : (s.busyWait n).ph = s.ph := rfl
@[simp] theorem State.busyWait_op (n : Nat) (s : State) : (s.busyWait n).op = s.op := rfl
@[simp] theorem State.busyWait_ra (n : Nat) (s : State) : (s.busyWait n).ra = s.ra := rfl
@[simp] theorem State.busyWait_rb (n : Nat) (s : State) : (s.busyWait n).rb = s.rb := rfl
@[simp] theorem State.busyWait_rc (n : Nat) (s : State) : (s.busyWait n).rc = s.rc := rfl
@[simp] theorem State.busyWait_rdata (n : Nat) (s : State) : (s.busyWait n).rdata = s.rdata := rfl
@[simp] theorem State.busyWait_rcause (n : Nat) (s : State) : (s.busyWait n).rcause = s.rcause := rfl
@[simp] theorem State.busyWait_work (n : Nat) (s : State) : (s.busyWait n).work = freeWork s.fresh := rfl
@[simp] theorem State.busyWait_inputs (n : Nat) (s : State) : (s.busyWait n).inputs = s.inputs := rfl
@[simp] theorem State.busyWait_busyLeft (n : Nat) (s : State) : (s.busyWait n).busyLeft = n := rfl
@[simp] theorem State.busyWait_fresh (n : Nat) (s : State) : (s.busyWait n).fresh = s.fresh + 1 := rfl

/-! ### takeResponse -/

@[simp] theorem State.takeResponse_x (s : State) : (s.takeResponse).x = s.x := rfl
@[simp] theorem State.takeResponse_y (s : State) : (s.takeResponse).y = s.y := rfl
@[simp] theorem State.takeResponse_seeded (s : State) : (s.takeResponse).seeded = s.seeded := rfl
@[simp] theorem State.takeResponse_flt (s : State) : (s.takeResponse).flt = s.flt := rfl
@[simp] theorem State.takeResponse_ph (s : State) : (s.takeResponse).ph = .idle := rfl
@[simp] theorem State.takeResponse_op (s : State) : (s.takeResponse).op = s.op := rfl
@[simp] theorem State.takeResponse_ra (s : State) : (s.takeResponse).ra = s.ra := rfl
@[simp] theorem State.takeResponse_rb (s : State) : (s.takeResponse).rb = s.rb := rfl
@[simp] theorem State.takeResponse_rc (s : State) : (s.takeResponse).rc = s.rc := rfl
@[simp] theorem State.takeResponse_rdata (s : State) : (s.takeResponse).rdata = s.rdata := rfl
@[simp] theorem State.takeResponse_rcause (s : State) : (s.takeResponse).rcause = s.rcause := rfl
@[simp] theorem State.takeResponse_work (s : State) : (s.takeResponse).work = s.work := rfl
@[simp] theorem State.takeResponse_inputs (s : State) : (s.takeResponse).inputs = s.inputs := rfl
@[simp] theorem State.takeResponse_busyLeft (s : State) : (s.takeResponse).busyLeft = s.busyLeft := rfl
@[simp] theorem State.takeResponse_fresh (s : State) : (s.takeResponse).fresh = s.fresh := rfl

/-! ### resetEdge -/

@[simp] theorem State.resetEdge_x (s : State) : (s.resetEdge).x = Config.freeX s.fresh := rfl
@[simp] theorem State.resetEdge_y (s : State) : (s.resetEdge).y = Config.freeY s.fresh := rfl
@[simp] theorem State.resetEdge_seeded (s : State) : (s.resetEdge).seeded = false := rfl
@[simp] theorem State.resetEdge_flt (s : State) : (s.resetEdge).flt = false := rfl
@[simp] theorem State.resetEdge_ph (s : State) : (s.resetEdge).ph = .idle := rfl
@[simp] theorem State.resetEdge_op (s : State) : (s.resetEdge).op = Config.freeOp s.fresh := rfl
@[simp] theorem State.resetEdge_ra (s : State) : (s.resetEdge).ra = Config.freeRa s.fresh := rfl
@[simp] theorem State.resetEdge_rb (s : State) : (s.resetEdge).rb = Config.freeRb s.fresh := rfl
@[simp] theorem State.resetEdge_rc (s : State) : (s.resetEdge).rc = Config.freeRc s.fresh := rfl
@[simp] theorem State.resetEdge_rdata (s : State) : (s.resetEdge).rdata = Config.freeRdata s.fresh := rfl
@[simp] theorem State.resetEdge_rcause (s : State) : (s.resetEdge).rcause = Config.freeRcause s.fresh := rfl
@[simp] theorem State.resetEdge_work (s : State) : (s.resetEdge).work = freeWork s.fresh := rfl
@[simp] theorem State.resetEdge_inputs (s : State) : (s.resetEdge).inputs = s.inputs := rfl
@[simp] theorem State.resetEdge_busyLeft (s : State) : (s.resetEdge).busyLeft = 0 := rfl
@[simp] theorem State.resetEdge_fresh (s : State) : (s.resetEdge).fresh = s.fresh + 1 := rfl

/-! ### clocked -/

@[simp] theorem State.clocked_x (s : State) : (s.clocked).x = s.x := rfl
@[simp] theorem State.clocked_y (s : State) : (s.clocked).y = s.y := rfl
@[simp] theorem State.clocked_seeded (s : State) : (s.clocked).seeded = s.seeded := rfl
@[simp] theorem State.clocked_flt (s : State) : (s.clocked).flt = s.flt := rfl
@[simp] theorem State.clocked_ph (s : State) : (s.clocked).ph = s.ph := rfl
@[simp] theorem State.clocked_op (s : State) : (s.clocked).op = s.op := rfl
@[simp] theorem State.clocked_ra (s : State) : (s.clocked).ra = s.ra := rfl
@[simp] theorem State.clocked_rb (s : State) : (s.clocked).rb = s.rb := rfl
@[simp] theorem State.clocked_rc (s : State) : (s.clocked).rc = s.rc := rfl
@[simp] theorem State.clocked_rdata (s : State) : (s.clocked).rdata = s.rdata := rfl
@[simp] theorem State.clocked_rcause (s : State) : (s.clocked).rcause = s.rcause := rfl
@[simp] theorem State.clocked_work (s : State) : (s.clocked).work = s.work := rfl
@[simp] theorem State.clocked_inputs (s : State) : (s.clocked).inputs = s.inputs.tail := rfl
@[simp] theorem State.clocked_busyLeft (s : State) : (s.clocked).busyLeft = s.busyLeft := rfl
@[simp] theorem State.clocked_fresh (s : State) : (s.clocked).fresh = s.fresh + 1 := rfl

/-! ### loadCommand -/

@[simp] theorem State.loadCommand_x (w : CmdWord) (s : State) : (s.loadCommand w).x = s.x := rfl
@[simp] theorem State.loadCommand_y (w : CmdWord) (s : State) : (s.loadCommand w).y = s.y := rfl
@[simp] theorem State.loadCommand_seeded (w : CmdWord) (s : State) : (s.loadCommand w).seeded = s.seeded := rfl
@[simp] theorem State.loadCommand_flt (w : CmdWord) (s : State) : (s.loadCommand w).flt = s.flt := rfl
@[simp] theorem State.loadCommand_ph (w : CmdWord) (s : State) : (s.loadCommand w).ph = .busy := rfl
@[simp] theorem State.loadCommand_op (w : CmdWord) (s : State) : (s.loadCommand w).op = opField w := rfl
@[simp] theorem State.loadCommand_ra (w : CmdWord) (s : State) : (s.loadCommand w).ra = aField w := rfl
@[simp] theorem State.loadCommand_rb (w : CmdWord) (s : State) : (s.loadCommand w).rb = bField w := rfl
@[simp] theorem State.loadCommand_rc (w : CmdWord) (s : State) : (s.loadCommand w).rc = cField w := rfl
@[simp] theorem State.loadCommand_rdata (w : CmdWord) (s : State) : (s.loadCommand w).rdata = s.rdata := rfl
@[simp] theorem State.loadCommand_rcause (w : CmdWord) (s : State) : (s.loadCommand w).rcause = s.rcause := rfl
@[simp] theorem State.loadCommand_work (w : CmdWord) (s : State) : (s.loadCommand w).work = s.work := rfl
@[simp] theorem State.loadCommand_inputs (w : CmdWord) (s : State) : (s.loadCommand w).inputs = EdgeInput.quiet :: s.inputs := rfl
@[simp] theorem State.loadCommand_busyLeft (w : CmdWord) (s : State) : (s.loadCommand w).busyLeft = 0 := rfl
@[simp] theorem State.loadCommand_fresh (w : CmdWord) (s : State) : (s.loadCommand w).fresh = s.fresh := rfl

/-! ### seedWith -/

@[simp] theorem State.seedWith_x (g : GenConsts) (sx sy : Half) (s : State) : (s.seedWith g sx sy).x = seedLaneX g sx := rfl
@[simp] theorem State.seedWith_y (g : GenConsts) (sx sy : Half) (s : State) : (s.seedWith g sx sy).y = seedLaneY g sy := rfl
@[simp] theorem State.seedWith_seeded (g : GenConsts) (sx sy : Half) (s : State) : (s.seedWith g sx sy).seeded = true := rfl
@[simp] theorem State.seedWith_flt (g : GenConsts) (sx sy : Half) (s : State) : (s.seedWith g sx sy).flt = s.flt := rfl
@[simp] theorem State.seedWith_ph (g : GenConsts) (sx sy : Half) (s : State) : (s.seedWith g sx sy).ph = s.ph := rfl
@[simp] theorem State.seedWith_op (g : GenConsts) (sx sy : Half) (s : State) : (s.seedWith g sx sy).op = s.op := rfl
@[simp] theorem State.seedWith_ra (g : GenConsts) (sx sy : Half) (s : State) : (s.seedWith g sx sy).ra = s.ra := rfl
@[simp] theorem State.seedWith_rb (g : GenConsts) (sx sy : Half) (s : State) : (s.seedWith g sx sy).rb = s.rb := rfl
@[simp] theorem State.seedWith_rc (g : GenConsts) (sx sy : Half) (s : State) : (s.seedWith g sx sy).rc = s.rc := rfl
@[simp] theorem State.seedWith_rdata (g : GenConsts) (sx sy : Half) (s : State) : (s.seedWith g sx sy).rdata = s.rdata := rfl
@[simp] theorem State.seedWith_rcause (g : GenConsts) (sx sy : Half) (s : State) : (s.seedWith g sx sy).rcause = s.rcause := rfl
@[simp] theorem State.seedWith_work (g : GenConsts) (sx sy : Half) (s : State) : (s.seedWith g sx sy).work = s.work := rfl
@[simp] theorem State.seedWith_inputs (g : GenConsts) (sx sy : Half) (s : State) : (s.seedWith g sx sy).inputs = s.inputs := rfl
@[simp] theorem State.seedWith_busyLeft (g : GenConsts) (sx sy : Half) (s : State) : (s.seedWith g sx sy).busyLeft = s.busyLeft := rfl
@[simp] theorem State.seedWith_fresh (g : GenConsts) (sx sy : Half) (s : State) : (s.seedWith g sx sy).fresh = s.fresh := rfl

/-! ### withLanes -/

@[simp] theorem State.withLanes_x (vx vy : Word) (s : State) : (s.withLanes vx vy).x = vx := rfl
@[simp] theorem State.withLanes_y (vx vy : Word) (s : State) : (s.withLanes vx vy).y = vy := rfl
@[simp] theorem State.withLanes_seeded (vx vy : Word) (s : State) : (s.withLanes vx vy).seeded = s.seeded := rfl
@[simp] theorem State.withLanes_flt (vx vy : Word) (s : State) : (s.withLanes vx vy).flt = s.flt := rfl
@[simp] theorem State.withLanes_ph (vx vy : Word) (s : State) : (s.withLanes vx vy).ph = s.ph := rfl
@[simp] theorem State.withLanes_op (vx vy : Word) (s : State) : (s.withLanes vx vy).op = s.op := rfl
@[simp] theorem State.withLanes_ra (vx vy : Word) (s : State) : (s.withLanes vx vy).ra = s.ra := rfl
@[simp] theorem State.withLanes_rb (vx vy : Word) (s : State) : (s.withLanes vx vy).rb = s.rb := rfl
@[simp] theorem State.withLanes_rc (vx vy : Word) (s : State) : (s.withLanes vx vy).rc = s.rc := rfl
@[simp] theorem State.withLanes_rdata (vx vy : Word) (s : State) : (s.withLanes vx vy).rdata = s.rdata := rfl
@[simp] theorem State.withLanes_rcause (vx vy : Word) (s : State) : (s.withLanes vx vy).rcause = s.rcause := rfl
@[simp] theorem State.withLanes_work (vx vy : Word) (s : State) : (s.withLanes vx vy).work = s.work := rfl
@[simp] theorem State.withLanes_inputs (vx vy : Word) (s : State) : (s.withLanes vx vy).inputs = s.inputs := rfl
@[simp] theorem State.withLanes_busyLeft (vx vy : Word) (s : State) : (s.withLanes vx vy).busyLeft = s.busyLeft := rfl
@[simp] theorem State.withLanes_fresh (vx vy : Word) (s : State) : (s.withLanes vx vy).fresh = s.fresh := rfl

/-! ### withWork -/

@[simp] theorem State.withWork_x (wk : Work) (s : State) : (s.withWork wk).x = s.x := rfl
@[simp] theorem State.withWork_y (wk : Work) (s : State) : (s.withWork wk).y = s.y := rfl
@[simp] theorem State.withWork_seeded (wk : Work) (s : State) : (s.withWork wk).seeded = s.seeded := rfl
@[simp] theorem State.withWork_flt (wk : Work) (s : State) : (s.withWork wk).flt = s.flt := rfl
@[simp] theorem State.withWork_ph (wk : Work) (s : State) : (s.withWork wk).ph = s.ph := rfl
@[simp] theorem State.withWork_op (wk : Work) (s : State) : (s.withWork wk).op = s.op := rfl
@[simp] theorem State.withWork_ra (wk : Work) (s : State) : (s.withWork wk).ra = s.ra := rfl
@[simp] theorem State.withWork_rb (wk : Work) (s : State) : (s.withWork wk).rb = s.rb := rfl
@[simp] theorem State.withWork_rc (wk : Work) (s : State) : (s.withWork wk).rc = s.rc := rfl
@[simp] theorem State.withWork_rdata (wk : Work) (s : State) : (s.withWork wk).rdata = s.rdata := rfl
@[simp] theorem State.withWork_rcause (wk : Work) (s : State) : (s.withWork wk).rcause = s.rcause := rfl
@[simp] theorem State.withWork_work (wk : Work) (s : State) : (s.withWork wk).work = wk := rfl
@[simp] theorem State.withWork_inputs (wk : Work) (s : State) : (s.withWork wk).inputs = s.inputs := rfl
@[simp] theorem State.withWork_busyLeft (wk : Work) (s : State) : (s.withWork wk).busyLeft = s.busyLeft := rfl
@[simp] theorem State.withWork_fresh (wk : Work) (s : State) : (s.withWork wk).fresh = s.fresh := rfl

/-! ### answered -/

@[simp] theorem State.answered_x (v : Word) (s : State) : (s.answered v).x = s.x := rfl
@[simp] theorem State.answered_y (v : Word) (s : State) : (s.answered v).y = s.y := rfl
@[simp] theorem State.answered_seeded (v : Word) (s : State) : (s.answered v).seeded = s.seeded := rfl
@[simp] theorem State.answered_flt (v : Word) (s : State) : (s.answered v).flt = s.flt := rfl
@[simp] theorem State.answered_ph (v : Word) (s : State) : (s.answered v).ph = .resp := rfl
@[simp] theorem State.answered_op (v : Word) (s : State) : (s.answered v).op = s.op := rfl
@[simp] theorem State.answered_ra (v : Word) (s : State) : (s.answered v).ra = s.ra := rfl
@[simp] theorem State.answered_rb (v : Word) (s : State) : (s.answered v).rb = s.rb := rfl
@[simp] theorem State.answered_rc (v : Word) (s : State) : (s.answered v).rc = s.rc := rfl
@[simp] theorem State.answered_rdata (v : Word) (s : State) : (s.answered v).rdata = v := rfl
@[simp] theorem State.answered_rcause (v : Word) (s : State) : (s.answered v).rcause = 0#4 := rfl
@[simp] theorem State.answered_work (v : Word) (s : State) : (s.answered v).work = s.work := rfl
@[simp] theorem State.answered_inputs (v : Word) (s : State) : (s.answered v).inputs = s.inputs := rfl
@[simp] theorem State.answered_busyLeft (v : Word) (s : State) : (s.answered v).busyLeft = s.busyLeft := rfl
@[simp] theorem State.answered_fresh (v : Word) (s : State) : (s.answered v).fresh = s.fresh := rfl

/-! ### faultedWith -/

@[simp] theorem State.faultedWith_x (c : Nibble) (s : State) : (s.faultedWith c).x = s.x := rfl
@[simp] theorem State.faultedWith_y (c : Nibble) (s : State) : (s.faultedWith c).y = s.y := rfl
@[simp] theorem State.faultedWith_seeded (c : Nibble) (s : State) : (s.faultedWith c).seeded = s.seeded := rfl
@[simp] theorem State.faultedWith_flt (c : Nibble) (s : State) : (s.faultedWith c).flt = true := rfl
@[simp] theorem State.faultedWith_ph (c : Nibble) (s : State) : (s.faultedWith c).ph = .resp := rfl
@[simp] theorem State.faultedWith_op (c : Nibble) (s : State) : (s.faultedWith c).op = s.op := rfl
@[simp] theorem State.faultedWith_ra (c : Nibble) (s : State) : (s.faultedWith c).ra = s.ra := rfl
@[simp] theorem State.faultedWith_rb (c : Nibble) (s : State) : (s.faultedWith c).rb = s.rb := rfl
@[simp] theorem State.faultedWith_rc (c : Nibble) (s : State) : (s.faultedWith c).rc = s.rc := rfl
@[simp] theorem State.faultedWith_rdata (c : Nibble) (s : State) : (s.faultedWith c).rdata = 0#64 := rfl
@[simp] theorem State.faultedWith_rcause (c : Nibble) (s : State) : (s.faultedWith c).rcause = c := rfl
@[simp] theorem State.faultedWith_work (c : Nibble) (s : State) : (s.faultedWith c).work = s.work := rfl
@[simp] theorem State.faultedWith_inputs (c : Nibble) (s : State) : (s.faultedWith c).inputs = s.inputs := rfl
@[simp] theorem State.faultedWith_busyLeft (c : Nibble) (s : State) : (s.faultedWith c).busyLeft = s.busyLeft := rfl
@[simp] theorem State.faultedWith_fresh (c : Nibble) (s : State) : (s.faultedWith c).fresh = s.fresh := rfl

end Sys2Proof.Machine
end

