-- ==== Sys2Proof/Laws/Ops.lean ====
section
/-!
SUPPORT. What each shared operation can do, said once: the two ends of a command, the meanings of the commands, one edge, one
step.
-/

namespace Sys2Proof.Machine

/-! ### Agreement -/

theorem State.agrees_rfl (s : State) : s.agrees s := by
  simp [State.agrees]

theorem State.agrees_symm {s t : State} (h : s.agrees t) : t.agrees s := by
  simp_all [State.agrees]

theorem State.agrees_trans {s t u : State} (h : s.agrees t) (h' : t.agrees u) : s.agrees u := by
  simp_all [State.agrees]

/-! ### The BUSY time -/

/-- The BUSY time drawn is the same in states that are the same in all a response can depend on (R20; log 6). -/
theorem busyDraw_congr {s t : State} (w : CmdWord) (h : s.sameArch t) : s.busyDraw w = t.busyDraw w := by
  obtain ⟨hsd, _, _, hl, _, _, _, _, hf⟩ := h
  by_cases hs : s.seeded = true
  · simp [State.busyDraw, ← hsd, hs, hl hs, hf]
  · simp [State.busyDraw, ← hsd, hs, hf]

/-! ### The two ends of a command -/

/-- A normal end writes the response latch and the phase, and nothing else of R20. -/
theorem endCommand_none_agrees (v : Word) (s : State) : (s.endCommand .none v).agrees (s.answered v) := by
  simp [State.agrees, Cause.code]

/-- A fault's end writes the sticky flag, the response latch and the phase, and nothing else of R20. -/
theorem faulted_agrees (c : Cause) (s : State) : (s.faulted c).agrees (s.faultedWith c.code) := by
  simp [State.agrees, State.faulted]

theorem respond_endsAs (v : Word) (s : State) : endsAs (respond v s) (s.answered v) :=
  ⟨_, rfl, endCommand_none_agrees v s⟩

theorem raiseFault_endsAs (c : Cause) (s : State) : endsAs (raiseFault c s) (s.faultedWith c.code) :=
  ⟨_, rfl, faulted_agrees c s⟩

/-! ### Meanings -/

/-- Every end of a command is a normal end of a state with some lanes and seeded flag, or a fault's end. -/
inductive EndOf (s : State) : State → Prop where
  | normal (x y : Word) (seeded : Bool) (v : Word) :
      EndOf s (({ s with x := x, y := y, seeded := seeded } : State).endCommand .none v)
  | fault (c : Cause) (hc : c ≠ .none) : EndOf s (s.setFlt.endCommand c 0#64)

/-- Inversion of exec: whatever the command, its end has one of the two forms. -/
theorem exec_end (i : Instr) (s : State) : ∃ t, exec i s = .next t ∧ EndOf s t := by
  have hn : ∀ x y sd v, ∃ t, respond v ({ s with x := x, y := y, seeded := sd } : State) = .next t ∧ EndOf s t :=
    fun x y sd v => ⟨_, rfl, .normal x y sd v⟩
  have hf : ∀ c, c ≠ .none → ∃ t, raiseFault c s = .next t ∧ EndOf s t := fun c hc => ⟨_, rfl, .fault c hc⟩
  cases i with
  | seed1 a => exact hn _ _ _ _
  | seed2 a b => exact hn _ _ _ _
  | next =>
    simp only [exec, execNext, nextWith]
    split
    · exact hn _ _ s.seeded _
    · exact hf _ (by simp)
  | mulmod a b m =>
    simp only [exec, execMulmod]
    split
    · exact hf _ (by simp)
    · exact hn s.x s.y s.seeded _
  | expmod b e m => exact hn s.x s.y s.seeded _
  | isprp n k =>
    simp only [exec, execIsprp, isprpWith]
    split
    · exact hf _ (by simp)
    · split
      · exact hf _ (by simp)
      · exact hn _ _ s.seeded _

/-- Inversion of the command-end edge. -/
theorem endLatched_end (s : State) : ∃ t, endLatched s = .next t ∧ EndOf s t := by
  simp only [endLatched]
  split
  · exact exec_end _ s
  · exact ⟨_, rfl, .fault _ (by simp)⟩

/-! ### One step -/

/-- What one rising edge can do, with what decides it. -/
inductive StepOf (s : State) : State → Prop where
  | reset (h : s.nextInput.rst = true) : StepOf s s.clocked.resetEdge
  | accept (h : s.nextInput.rst = false) (hp : s.ph = .idle) (hv : s.nextInput.cmdValid = true) :
      StepOf s (s.clocked.accept s.nextInput.cmdWord)
  | idle (h : s.nextInput.rst = false) (hp : s.ph = .idle) (hv : s.nextInput.cmdValid = false) : StepOf s s.clocked
  | wait (h : s.nextInput.rst = false) (hp : s.ph = .busy) (n : Nat) (hb : s.busyLeft = n + 1) :
      StepOf s (s.clocked.busyWait n)
  | finish (h : s.nextInput.rst = false) (hp : s.ph = .busy) (hb : s.busyLeft = 0) (t : State)
      (he : endLatched s.clocked = .next t) : StepOf s t
  | take (h : s.nextInput.rst = false) (hp : s.ph = .resp) (hr : s.nextInput.rspReady = true) :
      StepOf s s.clocked.takeResponse
  | hold (h : s.nextInput.rst = false) (hp : s.ph = .resp) (hr : s.nextInput.rspReady = false) : StepOf s s.clocked

/-- Inversion of step: every step is one of the seven transitions of R53 to R55 and R200. -/
theorem step_of {s t : State} (h : step s = .next t) : StepOf s t := by
  simp only [step, edge] at h
  split at h
  · next hr => cases h; exact .reset hr
  · next hr =>
    have hr' : s.nextInput.rst = false := by simpa using hr
    split at h
    · next hp =>
      simp only [idleEdge] at h
      split at h
      · next hv => cases h; exact .accept hr' hp hv
      · next hv => cases h; exact .idle hr' hp (by simpa using hv)
    · next hp =>
      simp only [busyEdge] at h
      split at h
      · next hb => exact .finish hr' hp hb t h
      · next n hb => cases h; exact .wait hr' hp n hb
    · next hp =>
      simp only [respEdge] at h
      split at h
      · next hv => cases h; exact .take hr' hp hv
      · next hv => cases h; exact .hold hr' hp (by simpa using hv)

end Sys2Proof.Machine
end

