-- ==== Sys2Proof/Laws/PerInstr.lean ====
section
/-!
SUPPORT. Facts about every command as syntax, one lemma per constructor: what its encoded word holds (spec 30_encoding.md R71,
R76, R80).
-/

namespace Sys2Proof.Laws.Encoding

/-- The encoded word of a command carries its opcode, and its bits outside the format are zero (R76, R80). -/
def Statement (i : Instr) : Prop :=
  i.wellFormed = true ∧ opField (encode i) = i.opcode ∧ encode i &&& usedBits i = encode i

theorem opField_packWord (op : Nibble) (c b a : Word) : opField (packWord op c b a) = op := by
  ext j hj
  have h1 : ¬ 192 + j < 64 := by omega
  have h2 : ¬ 192 + j - 64 < 64 := by omega
  have h3 : ¬ 192 + j - 64 - 64 < 64 := by omega
  have h4 : 192 + j - 64 - 64 - 64 = j := by omega
  simp only [opField, packWord, BitVec.getElem_extractLsb', BitVec.getLsbD_append, h1, h2, h3, h4, if_false,
    BitVec.getLsbD_eq_getElem hj]

/-- Masking a packed word masks its four fields. -/
theorem packWord_and (o o' : Nibble) (c c' b b' a a' : Word) :
    packWord o c b a &&& packWord o' c' b' a' = packWord (o &&& o') (c &&& c') (b &&& b') (a &&& a') := by
  apply BitVec.eq_of_getLsbD_eq
  intro j _
  by_cases h1 : j < 64 <;> by_cases h2 : j - 64 < 64 <;> by_cases h3 : j - 64 - 64 < 64 <;>
    simp only [packWord, BitVec.getLsbD_and, BitVec.getLsbD_append, h1, h2, h3, if_true, if_false]

theorem and_nibble (o : Nibble) : o &&& 0xf#4 = o := by
  have h : (0xf#4 : Nibble) = BitVec.allOnes 4 := by decide
  rw [h, BitVec.and_allOnes]

theorem zext64_and (v : Half) : zext64 v &&& 0xffffffff#64 = zext64 v := by
  ext j hj
  have hm : (0xffffffff#64 : Word) = (BitVec.allOnes 32).setWidth 64 := by decide
  simp only [hm, zext64, BitVec.getElem_and, BitVec.getElem_setWidth, BitVec.getLsbD_allOnes]
  by_cases h : j < 32
  · simp [h]
  · simp [h, BitVec.getLsbD_of_ge v j (by omega)]

theorem seed1 (seed : Half) : Statement (.seed1 seed) :=
  ⟨rfl, opField_packWord _ _ _ _, by simp only [encode, usedBits, packWord_and, and_nibble, zext64_and, BitVec.zero_and]⟩

theorem seed2 (seedX seedY : Half) : Statement (.seed2 seedX seedY) :=
  ⟨rfl, opField_packWord _ _ _ _, by simp only [encode, usedBits, packWord_and, and_nibble, zext64_and, BitVec.zero_and]⟩

theorem next : Statement .next :=
  ⟨rfl, opField_packWord _ _ _ _, by simp only [encode, usedBits, packWord_and, and_nibble, BitVec.zero_and]⟩

theorem mulmod (a b m : Word) : Statement (.mulmod a b m) :=
  ⟨rfl, opField_packWord _ _ _ _, by simp only [encode, usedBits, packWord_and, and_nibble, BitVec.and_allOnes]⟩

theorem expmod (b e m : Word) : Statement (.expmod b e m) :=
  ⟨rfl, opField_packWord _ _ _ _, by simp only [encode, usedBits, packWord_and, and_nibble, BitVec.and_allOnes]⟩

theorem isprp (n : Word) (k : Half) : Statement (.isprp n k) :=
  ⟨rfl, opField_packWord _ _ _ _, by
    simp only [encode, usedBits, packWord_and, and_nibble, zext64_and, BitVec.zero_and, BitVec.and_allOnes]⟩

end Sys2Proof.Laws.Encoding
end

