-- ==== Sys2Proof/Tests/Slice0.lean ====
section
/-!
SUPPORT. Tests with expected results from spec/95_test_vectors.md and the rules, and a witness for the hypotheses of every
obligation that has some.
-/

namespace Sys2Proof.Tests

open Sys2Proof Sys2Proof.Machine

/-! ### Well-formedness smoke tests: each check of GenConsts refuses a term that breaks it alone -/

theorem test_refGk_wellFormed : GenConsts.refGk.wellFormed = true := by decide
theorem test_toy_wellFormed : GenConsts.toy.wellFormed = true := by decide
theorem test_even_aX_refused : ({ GenConsts.toy with aX := 0xffffda60#32 } : GenConsts).wellFormed = false := by decide
theorem test_even_aY_refused : ({ GenConsts.toy with aY := 0xfffa2848#32 } : GenConsts).wellFormed = false := by decide
theorem test_equal_lanes_refused : ({ GenConsts.toy with aY := GenConsts.toy.aX } : GenConsts).wellFormed = false := by decide
theorem test_equal_xors_refused :
    ({ GenConsts.toy with seedXorY := GenConsts.toy.seedXorX } : GenConsts).wellFormed = false := by decide
theorem test_even_mixC0_refused : ({ GenConsts.toy with mixC0 := 2#64 } : GenConsts).wellFormed = false := by decide
theorem test_even_mixC1_refused : ({ GenConsts.toy with mixC1 := 2#64 } : GenConsts).wellFormed = false := by decide
theorem test_even_mixC2_refused : ({ GenConsts.toy with mixC2 := 2#64 } : GenConsts).wellFormed = false := by decide

/-! ### Decoding: words of 95_test_vectors.md section 6, one for every constructor -/

theorem test_decode_seed1 :
    decode 0x1000000000000000900000000000000090000000100000007#196 = .ok (.seed1 7#32) := by decide
theorem test_decode_seed2 :
    decode 0x20000000000000000000000001234567800000000deadbeef#196 = .ok (.seed2 0xdeadbeef#32 0x12345678#32) := by decide
theorem test_decode_next :
    decode 0x3ffffffffffffffff5555555555555555aaaaaaaaaaaaaaaa#196 = .ok .next := by decide
theorem test_decode_mulmod :
    decode 0x4ffffffffffffffc500000001000000000000000100000000#196
      = .ok (.mulmod 0x100000000#64 0x100000000#64 0xffffffffffffffc5#64) := by decide
theorem test_decode_expmod :
    decode 0x5ffffffffffffffc5ffffffffffffffc40000000000000002#196
      = .ok (.expmod 2#64 0xffffffffffffffc4#64 0xffffffffffffffc5#64) := by decide
theorem test_decode_isprp :
    decode 0x60000000000000001ffffffff000000050000000000000155#196 = .ok (.isprp 341#64 5#32) := by decide
theorem test_decode_all_zero :
    decode 0x0000000000000000000000000000000000000000000000000#196 = .error (.illegalOp 0#4) := by decide
theorem test_decode_all_ones :
    decode 0xfffffffffffffffffffffffffffffffffffffffffffffffff#196 = .error (.illegalOp 0xf#4) := by decide
theorem test_encode_isprp :
    encode (.isprp 341#64 20#32) = 0x6000000000000000000000000000000140000000000000155#196 := by decide
theorem test_decodeTableWord_whole_bytes :
    decodeTableWord 200 0x3000000000000000000000000000000000000000000000000 = some .next := by decide

/-! ### Helpers: one step of a small state, and what the host sees of it -/

/-- What the response latch and the sticky flag hold after an outcome. -/
def seen (o : Host.Outcome State Fault Refusal) : Option (Nibble × Word × Bool) :=
  match o with
  | .next t => some (t.rcause, t.rdata, t.flt)
  | .fault _ => none
  | .refused _ => none

/-- The lanes after an outcome. -/
def lanes (o : Host.Outcome State Fault Refusal) : Option (Word × Word) :=
  match o with
  | .next t => some (t.x, t.y)
  | .fault _ => none
  | .refused _ => none

/-- The phase after an outcome. -/
def phaseOf (o : Host.Outcome State Fault Refusal) : Option Phase :=
  match o with
  | .next t => some t.ph
  | .fault _ => none
  | .refused _ => none

/-- The state `SEED2 1, 0` leaves under REF-GK (95_test_vectors.md 2.2). -/
def seededState : State :=
  { State.reset with seeded := true, x := 0xce85e91c90e4d2d2#64, y := 0x2be211ec1ebe26b6#64 }

/-- An idle block whose host offers the word of NEXT. -/
def offered : State :=
  { State.reset with inputs := [⟨false, true, 0x3000000000000000000000000000000000000000000000000#196, false⟩] }

/-- A block about to end the all-zero word. -/
def endingZero : State := State.reset.loadCommand 0#196

/-- A block whose response waits, with a host that takes it. -/
def taken : State := { State.reset with ph := .resp, inputs := [⟨false, false, 0#196, true⟩] }

/-- A block whose response waits, with a host that does not take it. -/
def waiting : State := { State.reset with ph := .resp }

/-- A block in BUSY into whose next edge the host drives a reset. -/
def resetting : State := { State.reset with ph := .busy, flt := true, inputs := [⟨true, true, 0#196, true⟩] }

/-! ### Commands, one step each (95_test_vectors.md sections 2 to 6) -/

theorem test_seed1_refGk_lanes :
    seedLaneX .refGk 1#32 = 0xce85e91c90e4d2d2#64 ∧ seedLaneY .refGk 1#32 = 0xa4e9faca87fc4f23#64 := by decide
theorem test_seed1_step_responds_zero :
    seen (step (State.reset.withFetchWord 200 0x1000000000000000000000000000000000000000000000007))
      = some (0#4, 0#64, false) := by decide
theorem test_seed2_toy_lanes :
    seedLaneX .toy 0xdeadbeef#32 = 0x000000327c53232f#64 ∧ seedLaneY .toy 0x12345678#32 = 0x00000037eb851e93#64 := by decide
theorem test_seed2_step_responds_zero :
    seen (step (State.reset.withFetchWord 200 0x2000000000000000000000000000000000000000000000001))
      = some (0#4, 0#64, false) := by decide
theorem test_next_refGk_first_output :
    seen (nextWith .refGk seededState) = some (0#4, 0xd52ec0fc#64, false)
      ∧ lanes (nextWith .refGk seededState) = some (0x90e333305a82821a#64, 0x1ebdcccf7aac3ee2#64) := by decide
theorem test_next_from_reset_unseeded :
    seen (step (State.reset.withFetchWord 200 0x3000000000000000000000000000000000000000000000000))
      = some (4#4, 0#64, true) := by decide
theorem test_mulmod_full_product :
    seen (step (State.reset.withFetchWord 200 0x4ffffffffffffffc500000001000000000000000100000000))
      = some (0#4, 0x3b#64, false) := by decide
theorem test_mulmod_bad_modulus :
    seen (step (State.reset.withFetchWord 200 0x4000000000000000100000000000000040000000000000003))
      = some (2#4, 0#64, true) := by decide
theorem test_expmod_fermat :
    seen (step (State.reset.withFetchWord 200 0x5ffffffffffffffc5ffffffffffffffc40000000000000002))
      = some (0#4, 1#64, false) := by decide +kernel
theorem test_expmod_degenerate_returns :
    expModFn 0#64 0#64 7#64 = 0#64 ∧ expModFn 5#64 0#64 1#64 = 0#64 ∧ expModFn 7#64 0#64 7#64 = 1#64
      ∧ expModFn 10#64 1#64 7#64 = 3#64 ∧ expModFn 7#64 1#64 7#64 = 0#64 := by decide +kernel
theorem test_isprp_refGk_341 :
    seen (isprpWith .refGk 341#64 20#32 seededState) = some (0#4, 0#64, false)
      ∧ lanes (isprpWith .refGk 341#64 20#32 seededState) = some (0x5a817e78e87d6c26#64, 0x7aaad826a6066671#64) := by
  decide +kernel
theorem test_isprp_bad_candidate_before_unseeded :
    seen (step (State.reset.withFetchWord 200 0x6000000000000000000000000000000010000000000000004))
      = some (3#4, 0#64, true) := by decide
/-- The three traps of R217, from section 5.1. -/
theorem test_round_early_exits :
    roundFn 17#64 (stripFn 17#64) 3#64 = .passed ∧ roundFn 341#64 (stripFn 341#64) 2#64 = .composite
      ∧ roundFn 9#64 (stripFn 9#64) 2#64 = .composite ∧ roundFn 3#64 (stripFn 3#64) 0#64 = .composite := by decide +kernel
theorem test_illegal_word_from_reset :
    seen (step (State.reset.withFetchWord 200 0)) = some (1#4, 0#64, true) := by decide

/-! ### Edges (95_test_vectors.md section 8) -/

theorem test_accept_then_busy : phaseOf (step offered) = some .busy := by decide
theorem test_response_taken : phaseOf (step taken) = some .idle := by decide
theorem test_response_waits : phaseOf (step waiting) = some .resp := by decide
theorem test_reset_while_busy :
    phaseOf (step resetting) = some .idle ∧ (seen (step resetting)).map (fun r => r.2.2) = some false := by decide
theorem test_idle_stays : phaseOf (step State.reset) = some .idle := by decide

/-! ### Witnesses: a concrete case that meets the hypotheses of each obligation -/

theorem witness_OperandsReadAndUnusedBitsIgnored :
    decode 0x3000000000000000000000000000000000000000000000000#196 = .ok .next
      ∧ 0x3ffffffffffffffff5555555555555555aaaaaaaaaaaaaaaa#196 &&& usedBits .next
          = 0x3000000000000000000000000000000000000000000000000#196 &&& usedBits .next := by decide
theorem witness_DegenerateLaneValues :
    GenConsts.toy.aX ≠ 0#32 ∧ (0xffffda60ffffffff#64 : Word).toNat = GenConsts.toy.aX.toNat * 2 ^ 32 - 1
      ∧ GenConsts.toy.wellFormed = true ∧ 2 ^ 32 ≤ GenConsts.toy.seedXorX.toNat
      ∧ 2 ^ 32 ≤ GenConsts.toy.seedXorY.toNat := by decide
/-- The other side of R110: an XOR constant below `2^32` is reached by a seed, and the lane is then 0. -/
theorem witness_DegenerateLaneValues_small_constant :
    let g := { GenConsts.toy with seedXorX := 5#64 }
    g.wellFormed = true ∧ zext64 5#32 ^^^ g.seedXorX = 0#64 ∧ seedLaneX g 5#32 = 0#64 := by decide
theorem witness_SeedingIsInjective : GenConsts.refGk.wellFormed = true := by decide
theorem witness_Seed1Effect : GenConsts.toy.wellFormed = true ∧ seedLaneX .toy 7#32 ≠ seedLaneY .toy 7#32 := by decide
theorem witness_NextEffect : seededState.seeded = true ∧ State.reset.seeded = false := by decide
theorem witness_SeededStreamDeterministic :
    ∃ t, exec (.isprp 7#64 0#32) State.reset = .next t := ⟨_, rfl⟩
theorem witness_MulmodExactRemainder : 1 < (2#64 : Word).toNat ∧ (1#64 : Word).toNat ≤ 1 ∧ (0#64 : Word).toNat ≤ 1 := by decide
theorem witness_ModularProductLaws : 1 < (0xffffffffffffffff#64 : Word).toNat := by decide
theorem witness_SerialReductionExact :
    1 < (7#64 : Word).toNat ∧ 127 < 128 ∧ (0#65).toNat = (15#128 : Wide).toNat / 2 ^ (127 + 1) % (7#64 : Word).toNat := by
  decide
theorem witness_SquareAndMultiplyInvariant :
    1 < (7#64 : Word).toNat ∧ (13#64 : Word) ≠ 0#64 ∧ 2 < msb 13#64
      ∧ (3#64 : Word).toNat = (3#64 : Word).toNat ^ ((13#64 : Word).toNat / 2 ^ (2 + 1)) % (7#64 : Word).toNat := by
  decide +kernel
/-- For StripFnOddPart, LoopsEndWithinTheirBounds, IsprpZeroRounds, at both ends of the range. -/
theorem witness_LegalCandidate_bounds : LegalCandidate 3#64 ∧ LegalCandidate 0xffffffffffffffff#64 := by
  constructor <;> exact ⟨by decide, by decide⟩
theorem witness_not_LegalCandidate : ¬ LegalCandidate 2#64 ∧ ¬ LegalCandidate 4#64 ∧ ¬ LegalCandidate 1#64 := by
  refine ⟨fun h => ?_, fun h => ?_, fun h => ?_⟩
  · exact absurd h.1 (by decide)
  · exact absurd h.2 (by decide)
  · exact absurd h.1 (by decide)
theorem witness_WitnessAssembly : 0 < (1#64 : Word).toNat := by decide
theorem witness_RoundClosedForm :
    LegalCandidate 9#64 ∧ (9#64 : Word).toNat - 1 = (stripFn 9#64).toNat * 2 ^ 3
      ∧ 1 ≤ (8#64 : Word).toNat ∧ (8#64 : Word).toNat ≤ (9#64 : Word).toNat - 1 :=
  ⟨⟨by decide, by decide⟩, by decide, by decide, by decide⟩
/-- The clause for the witness 0, and the lowest witness of the other one. -/
theorem witness_RoundClosedForm_boundaries :
    LegalCandidate 3#64 ∧ (3#64 : Word).toNat - 1 = (stripFn 3#64).toNat * 2 ^ 1
      ∧ roundFn 3#64 (stripFn 3#64) 0#64 = .composite ∧ 1 ≤ (1#64 : Word).toNat
      ∧ (1#64 : Word).toNat ≤ (3#64 : Word).toNat - 1 ∧ roundFn 3#64 (stripFn 3#64) 1#64 = .passed :=
  ⟨⟨by decide, by decide⟩, by decide, by decide, by decide, by decide, by decide⟩
theorem witness_CompositeOfPrime_round :
    (7#64 : Word).toNat.Prime ∧ 2 < (7#64 : Word).toNat ∧ 1 ≤ (6#64 : Word).toNat ∧ (6#64 : Word).toNat ≤ (7#64 : Word).toNat - 1 := by
  refine ⟨?_, by decide, by decide, by decide⟩
  have h : (7#64 : Word).toNat = 7 := by decide
  rw [h]; norm_num
/-- Both lanes 0 draw the witness 0 whatever the constants are, and the prime 7 is called composite (R159). -/
theorem witness_CompositeOfPrime_zero_witness :
    ∃ t, exec (.isprp 7#64 1#32) { State.reset with seeded := true } = .next t ∧ t.rcause = 0#4 ∧ t.rdata = 0#64 := by
  have hl : ∀ a : Half, laneFn a 0#64 = 0#64 := fun a => by simp [laneFn, low32, high32, zext64]
  have hw : drawWitness consts 7#64 0#64 0#64 = ⟨0#64, 0#64, 0#64⟩ := by
    simp only [drawWitness, drawFn, hl]
    decide
  have hr : roundFn 7#64 (stripFn 7#64) 0#64 = .composite := by decide +kernel
  have hv : isPrpFn consts 7#64 1#32 0#64 0#64 = ⟨false, 0#64, 0#64⟩ := by
    have hk : (1#32 : Half).toNat = 0 + 1 := rfl
    simp only [isPrpFn, hk, isPrpLoop, hw, hr, if_true]
  have hb : badCandidate 7#64 = false := by decide
  simp only [exec, execIsprp, isprpWith, hb, State.reset, hv]
  exact ⟨_, rfl, rfl, rfl⟩
theorem witness_IsprpRoundsAndDraws :
    LegalCandidate 341#64 ∧ seededState.seeded = true ∧ (1#32 : Half) ≠ 0#32 ∧ State.reset.seeded = false :=
  ⟨⟨by decide, by decide⟩, by decide, by decide, by decide⟩
theorem witness_FaultCausesAsTabled :
    Contract (.mulmod 1#64 1#64 2#64) State.reset ∧ ¬ Contract (.mulmod 1#64 1#64 1#64) State.reset
      ∧ Contract (.isprp 3#64 0#32) State.reset ∧ ¬ Contract .next State.reset := by
  refine ⟨by simp [Contract], by simp [Contract], ?_, by simp [Contract, State.reset]⟩
  exact ⟨⟨by decide, by decide⟩, .inl rfl⟩
theorem witness_IllegalOpcodeFaults :
    endingZero.nextInput.rst = false ∧ endingZero.ph = .busy ∧ endingZero.busyLeft = 0 ∧ endingZero.op.toNat = 0 := by decide
theorem witness_FaultsLeaveNoTrace :
    ¬ Contract .next State.reset ∧ ∃ t, exec .next State.reset = .next t :=
  ⟨by simp [Contract, State.reset], ⟨_, rfl⟩⟩
theorem witness_CleanRunIffNoCause : State.reset.flt = false := by decide
theorem witness_VerdictFunctionOfLanes :
    let s' := { seededState with flt := true, rdata := 5#64 }
    seededState.x = s'.x ∧ seededState.y = s'.y ∧ seededState.seeded = s'.seeded ∧ seededState ≠ s' := by decide
theorem witness_ResetEdge_any_other_input :
    (⟨true, true, 1#196, true⟩ : EdgeInput).rst = true ∧ (⟨true, false, 0#196, false⟩ : EdgeInput).rst = true := by decide
theorem witness_OpcodeTableIsTheDecoder :
    (opcodeTable.map fun r => r.hits 0x4000000000000000700000000000000050000000000000003#196)
      = [false, false, false, true, false, false] := by decide
theorem witness_ResetEdge_busy_inputs :
    endingZero.ph = .busy
      ∧ (⟨false, true, 1#196, true⟩ : EdgeInput).rst = (⟨false, false, 0#196, false⟩ : EdgeInput).rst := by decide
theorem witness_StepRunsLatchedCommand :
    let s := State.reset.loadCommand 0x3000000000000000000000000000000000000000000000000#196
    s.nextInput.rst = false ∧ s.ph = .busy ∧ s.busyLeft = 0 ∧ s.latched = .ok .next := by decide
theorem witness_AcceptEdge_accepted :
    offered.nextInput.rst = false ∧ offered.ph = .idle ∧ offered.nextInput.cmdValid = true := by decide
theorem witness_AcceptEdge_nothing_offered :
    State.reset.nextInput.rst = false ∧ State.reset.ph = .idle ∧ State.reset.nextInput.cmdValid = false := by decide
theorem witness_AcceptEdge_ignored :
    taken.ph ≠ .idle ∧ (⟨false, true, 1#196, true⟩ : EdgeInput).rst = (⟨false, false, 0#196, true⟩ : EdgeInput).rst
      ∧ (⟨false, true, 1#196, true⟩ : EdgeInput).rspReady = (⟨false, false, 0#196, true⟩ : EdgeInput).rspReady := by decide
theorem witness_TakeEdge_taken :
    taken.nextInput.rst = false ∧ taken.ph = .resp ∧ taken.nextInput.rspReady = true := by decide
theorem witness_TakeEdge_held :
    waiting.nextInput.rst = false ∧ waiting.ph = .resp ∧ waiting.nextInput.rspReady = false := by decide
/-- For PhaseMoves, FlagsSetOnlyAsRuled and LatchesHeld: a step without a reset in each of the three phases. -/
theorem witness_step_without_reset :
    (offered.nextInput.rst = false ∧ offered.ph = .idle ∧ ∃ t, step offered = .next t)
      ∧ (endingZero.nextInput.rst = false ∧ endingZero.ph = .busy ∧ ∃ t, step endingZero = .next t)
      ∧ (taken.nextInput.rst = false ∧ taken.ph = .resp ∧ ∃ t, step taken = .next t) :=
  ⟨⟨by decide, by decide, ⟨_, rfl⟩⟩, ⟨by decide, by decide, ⟨_, rfl⟩⟩, ⟨by decide, by decide, ⟨_, rfl⟩⟩⟩
/-- A block with lane X at `x` about to end `SEED1 7`. -/
def endingSeed1 (x : Word) : State :=
  { State.reset.loadCommand 0x1000000000000000000000000000000000000000000000007#196 with x := x }
/-- Whatever the constants are, the seed changes lane X of one of the two states. -/
theorem witness_LaneWriters :
    ∃ x : Word, (endingSeed1 x).nextInput.rst = false ∧ ∃ t, step (endingSeed1 x) = .next t ∧ t.x ≠ (endingSeed1 x).x := by
  by_cases h : seedLaneX consts 7#32 = 0#64
  · refine ⟨1#64, rfl, _, rfl, ?_⟩
    show seedLaneX consts 7#32 ≠ 1#64
    rw [h]; decide
  · exact ⟨0#64, rfl, _, rfl, h⟩
theorem witness_EveryCommandEnds : endingZero.ph = .busy ∧ endingZero.noReset (endingZero.busyLeft + 1) := by
  refine ⟨by decide, ?_⟩
  simp [State.noReset, endingZero, State.loadCommand, State.reset, EdgeInput.quiet]
theorem witness_CommandIsOneTransition :
    offered.ph = .idle ∧ offered.nextInput.cmdValid = true ∧ (∀ inp ∈ offered.inputs, inp.rst = false)
      ∧ decode offered.nextInput.cmdWord = .ok .next := by decide
theorem witness_CommandIsOneTransition_illegal :
    let s := { State.reset with inputs := [⟨false, true, 0#196, false⟩] }
    s.ph = .idle ∧ s.nextInput.cmdValid = true ∧ decode s.nextInput.cmdWord = .error (.illegalOp 0#4) := by decide
theorem witness_ResetEdge :
    let s' := { State.reset with inputs := resetting.inputs }
    resetting.nextInput.rst = true ∧ s'.inputs = resetting.inputs ∧ s'.fresh = resetting.fresh ∧ s' ≠ resetting := by decide
theorem witness_ResponseInvariantKept :
    endingZero.Inv ∧ ∃ t, step endingZero = .next t :=
  ⟨fun h => absurd h (by decide), ⟨_, rfl⟩⟩
/-- Two states that differ in what nothing may depend on: the lanes before seeding, and a working register. -/
theorem witness_UnspecifiedNeverObserved :
    State.reset.sameArch { State.reset with x := 1#64, y := 2#64, op := 5#4, work := { Work.reset with acc := 9#64 } }
      ∧ State.reset ≠ { State.reset with x := 1#64, y := 2#64, op := 5#4, work := { Work.reset with acc := 9#64 } } := by
  constructor
  · simp [State.sameArch, State.reset]
  · decide
/-- One normal end of every command. -/
theorem witness_ResponseDataShape :
    (∃ t, exec (.seed1 7#32) State.reset = .next t ∧ t.rcause = 0#4)
      ∧ (∃ t, exec (.seed2 1#32 0#32) State.reset = .next t ∧ t.rcause = 0#4)
      ∧ (∃ t, exec .next seededState = .next t ∧ t.rcause = 0#4)
      ∧ (∃ t, exec (.mulmod 10#64 10#64 7#64) State.reset = .next t ∧ t.rcause = 0#4)
      ∧ (∃ t, exec (.expmod 3#64 13#64 7#64) State.reset = .next t ∧ t.rcause = 0#4 ∧ 1 < (7#64 : Word).toNat)
      ∧ ∃ t, exec (.isprp 7#64 0#32) State.reset = .next t ∧ t.rcause = 0#4 :=
  ⟨⟨_, rfl, rfl⟩, ⟨_, rfl, rfl⟩, ⟨_, rfl, rfl⟩, ⟨_, rfl, rfl⟩, ⟨_, rfl, rfl, by decide⟩, ⟨_, rfl, rfl⟩⟩

end Sys2Proof.Tests
end

namespace Sys2Proof.Machine

/-! ### The latches (spec 10_state.md R27, R28) -/

/-- Every end of a command raises the response. -/
theorem EndOf.ph_eq_resp {s t : State} (h : EndOf s t) : t.ph = .resp := by
  cases h with
  | normal => rfl
  | fault => rfl

/-- No end of a command writes the command latch (R27). -/
theorem EndOf.commandLatch_eq {s t : State} (h : EndOf s t) :
    t.op = s.op ∧ t.ra = s.ra ∧ t.rb = s.rb ∧ t.rc = s.rc := by
  cases h with
  | normal => simp
  | fault => simp

/-- The end reached through the command-end edge is one of the two forms. -/
theorem endOf_of_endLatched {s t : State} (h : endLatched s = .next t) : EndOf s t := by
  obtain ⟨u, hu, hend⟩ := endLatched_end s
  rw [h] at hu
  cases hu
  exact hend

/-- While the response waits, the response latch is on the port (R28, R50). -/
theorem State.rspWord_of_resp {s : State} (h : s.ph = .resp) : s.rspWord = s.rcause ++ s.rdata := by
  simp [State.rspWord, State.rspValid, h]

/-- Without a reset, an edge accepts a command or keeps the command latch (R27). -/
theorem StepOf.accepts_or_commandLatch_eq {s t : State} (hrst : s.nextInput.rst = false) (h : StepOf s t) :
    (s.ph = .idle ∧ t.ph = .busy) ∨ (t.op = s.op ∧ t.ra = s.ra ∧ t.rb = s.rb ∧ t.rc = s.rc) := by
  cases h with
  | reset hr => simp [hrst] at hr
  | accept _ hp _ => exact .inl ⟨hp, by simp⟩
  | finish _ _ _ _ he =>
    have hkeep := (endOf_of_endLatched he).commandLatch_eq
    exact .inr (by simpa using hkeep)
  | idle | wait | take | hold => exact .inr (by simp)

/-- Without a reset, an edge ends a command or keeps the response latch (R28). -/
theorem StepOf.ends_or_responseLatch_eq {s t : State} (hrst : s.nextInput.rst = false) (h : StepOf s t) :
    (s.ph = .busy ∧ t.ph = .resp) ∨ (t.rdata = s.rdata ∧ t.rcause = s.rcause) := by
  cases h with
  | reset hr => simp [hrst] at hr
  | finish _ hp _ _ he => exact .inl ⟨hp, (endOf_of_endLatched he).ph_eq_resp⟩
  | accept | idle | wait | take | hold => exact .inr (by simp)

/-- Settles O42: of the transitions of a step, only an accept writes the command latch and only a command's end the
response latch. -/
theorem latchesHeld : Obligations.LatchesHeld := by
  intro s t hrst hstep
  have hof := step_of hstep
  refine ⟨fun hcmd => ?_, fun hrsp => ?_, State.rspWord_of_resp⟩
  · refine (hof.accepts_or_commandLatch_eq hrst).resolve_right ?_
    rintro ⟨hop, hra, hrb, hrc⟩
    simp [hop, hra, hrb, hrc] at hcmd
  · refine (hof.ends_or_responseLatch_eq hrst).resolve_right ?_
    rintro ⟨hdata, hcause⟩
    simp [hdata, hcause] at hrsp

end Sys2Proof.Machine

namespace Sys2Proof.Machine

/-! ### The transitions of one edge as equations (spec 20_memory.md R52 to R54, 70_reset_and_hazards.md R200)

`step_of` inverts a step; these say forwards which transition an edge takes. -/

theorem edge_eq_resetEdge {inp : EdgeInput} (hr : inp.rst = true) (s : State) :
    edge inp s = .next s.resetEdge := by
  simp [edge, hr]

theorem edge_eq_idleEdge {inp : EdgeInput} {s : State} (hr : inp.rst = false) (hp : s.ph = .idle) :
    edge inp s = .next (idleEdge inp s) := by
  simp [edge, hr, hp]

theorem edge_eq_busyEdge {inp : EdgeInput} {s : State} (hr : inp.rst = false) (hp : s.ph = .busy) :
    edge inp s = busyEdge s := by
  simp [edge, hr, hp]

theorem edge_eq_respEdge {inp : EdgeInput} {s : State} (hr : inp.rst = false) (hp : s.ph = .resp) :
    edge inp s = .next (respEdge inp s) := by
  simp [edge, hr, hp]

theorem step_eq_resetEdge {s : State} (hr : s.nextInput.rst = true) : step s = .next s.clocked.resetEdge :=
  edge_eq_resetEdge hr _

theorem step_eq_accept {s : State} (hr : s.nextInput.rst = false) (hp : s.ph = .idle)
    (hv : s.nextInput.cmdValid = true) : step s = .next (s.clocked.accept s.nextInput.cmdWord) := by
  rw [step, edge_eq_idleEdge hr (s.clocked_ph.trans hp), idleEdge, if_pos hv]

theorem step_eq_clocked_of_idle {s : State} (hr : s.nextInput.rst = false) (hp : s.ph = .idle)
    (hv : s.nextInput.cmdValid = false) : step s = .next s.clocked := by
  rw [step, edge_eq_idleEdge hr (s.clocked_ph.trans hp), idleEdge, if_neg (by simp [hv])]

theorem step_eq_takeResponse {s : State} (hr : s.nextInput.rst = false) (hp : s.ph = .resp)
    (hv : s.nextInput.rspReady = true) : step s = .next s.clocked.takeResponse := by
  rw [step, edge_eq_respEdge hr (s.clocked_ph.trans hp), respEdge, if_pos hv]

theorem step_eq_clocked_of_resp {s : State} (hr : s.nextInput.rst = false) (hp : s.ph = .resp)
    (hv : s.nextInput.rspReady = false) : step s = .next s.clocked := by
  rw [step, edge_eq_respEdge hr (s.clocked_ph.trans hp), respEdge, if_neg (by simp [hv])]

/-! ### Which inputs an edge reads -/

/-- Reset comes before every other input (R52). -/
theorem edge_congr_of_rst {inp inp' : EdgeInput} (hr : inp.rst = true) (hr' : inp'.rst = true) (s : State) :
    edge inp s = edge inp' s := by
  rw [edge_eq_resetEdge hr, edge_eq_resetEdge hr']

/-- In BUSY only reset is read (R52). -/
theorem edge_congr_of_busy {inp inp' : EdgeInput} {s : State} (hp : s.ph = .busy) (hr : inp.rst = inp'.rst) :
    edge inp s = edge inp' s := by
  cases h : inp.rst with
  | true => exact edge_congr_of_rst h (hr ▸ h) s
  | false => rw [edge_eq_busyEdge h hp, edge_eq_busyEdge (hr ▸ h) hp]

/-- Outside IDLE only reset and `rsp_ready` are read: the command channel is ignored (R53). -/
theorem edge_congr_of_ne_idle {inp inp' : EdgeInput} {s : State} (hp : s.ph ≠ .idle) (hr : inp.rst = inp'.rst)
    (hv : inp.rspReady = inp'.rspReady) : edge inp s = edge inp' s := by
  cases h : inp.rst with
  | true => exact edge_congr_of_rst h (hr ▸ h) s
  | false =>
    cases hph : s.ph with
    | idle => exact absurd hph hp
    | busy => exact edge_congr_of_busy hph hr
    | resp => rw [edge_eq_respEdge h hph, edge_eq_respEdge (hr ▸ h) hph, respEdge, respEdge, hv]

/-! ### What a transition of the ports leaves in the registers of R20 -/

/-- Sampling the inputs consumes one of them and changes no register. -/
theorem State.clocked_agrees (s : State) : s.clocked.agrees { s with inputs := s.inputs.tail } := by
  simp [State.agrees]

/-- A taken response changes only the phase (R54, R60). -/
theorem State.takeResponse_agrees (s : State) : s.takeResponse.agrees { s with ph := .idle } := by
  simp [State.agrees]

/-- An accept writes the four fields of the word to the command latch and the phase, and no other register (R53). -/
theorem State.accept_agrees (w : CmdWord) (s : State) :
    (s.accept w).agrees { s with
      op := opField w, rc := cField w, rb := bField w, ra := aField w
      ph := .busy, busyLeft := (s.accept w).busyLeft } := by
  simp [State.agrees]

/-- States reset with the same coming inputs and draw count are the same in all that later behaviour can depend on (R202). -/
theorem State.resetEdge_sameArch {s s' : State} (hi : s.inputs = s'.inputs) (hf : s.fresh = s'.fresh) :
    s.resetEdge.sameArch s'.resetEdge := by
  simp [State.sameArch, hi, hf]

/-- Settles O32: accept in IDLE with a valid word, nothing in IDLE without, and in BUSY and RESP no edge reads the
command channel. -/
theorem acceptEdge : Obligations.AcceptEdge := by
  refine ⟨fun s hr hp hv => ?_, fun _ hr hp hv => step_eq_clocked_of_idle hr hp hv,
    fun _ _ _ _ hp hr hv => edge_congr_of_ne_idle hp hr hv⟩
  exact ⟨_, step_eq_accept hr hp hv, State.accept_agrees _ s.clocked⟩

/-- Settles O33: the response latch is on the port in RESP; a take writes only the phase, and a held response keeps
phase and latch, so the port too. -/
theorem takeEdge : Obligations.TakeEdge := by
  refine ⟨fun s hp => ⟨by simp [State.rspValid, hp], State.rspWord_of_resp hp⟩, fun s hr hp hv => ?_, fun s hr hp hv => ?_⟩
  · exact ⟨_, step_eq_takeResponse hr hp hv, s.clocked.takeResponse_agrees⟩
  · refine ⟨_, step_eq_clocked_of_resp hr hp hv, s.clocked_agrees, ?_⟩
    have hp' : s.clocked.ph = .resp := hp
    simp [State.rspWord_of_resp hp, State.rspWord_of_resp hp']

/-- Settles O37: the reset transition is taken whatever the phase and the other inputs, and it computes every register
later behaviour can depend on from the coming inputs and the draw count alone. -/
theorem resetEdge : Obligations.ResetEdge := by
  refine ⟨fun s hr => ?_, fun _ _ _ _ hr hr' => edge_congr_of_rst hr hr' _,
    fun _ _ _ _ hp hr => edge_congr_of_busy hp hr, fun s s' hr hi hf => ?_⟩
  · exact ⟨_, step_eq_resetEdge hr, by simp [State.cmdReady, State.rspValid]⟩
  · have hr' : s'.nextInput.rst = true := by simpa [State.nextInput, hi] using hr
    exact ⟨_, _, step_eq_resetEdge hr, step_eq_resetEdge hr', State.resetEdge_sameArch (by simp [hi]) (by simp [hf])⟩

end Sys2Proof.Machine

namespace Sys2Proof

open Laws.Encoding (opField_packWord packWord_and and_nibble)

/-! ### The fields of a packed word (spec 30_encoding.md R71, R80) -/

theorem cField_packWord (op : Nibble) (c b a : Word) : cField (packWord op c b a) = c := by
  rw [cField, packWord, BitVec.extractLsb'_append_eq_of_le (by decide), BitVec.extractLsb'_append_eq_of_le (by decide)]
  exact BitVec.extractLsb'_append_eq_right

theorem bField_packWord (op : Nibble) (c b a : Word) : bField (packWord op c b a) = b := by
  rw [bField, packWord, BitVec.extractLsb'_append_eq_of_le (by decide)]
  exact BitVec.extractLsb'_append_eq_right

theorem aField_packWord (op : Nibble) (c b a : Word) : aField (packWord op c b a) = a :=
  BitVec.extractLsb'_append_eq_right

/-- The four fields are the whole word. -/
theorem packWord_fields (w : CmdWord) : packWord (opField w) (cField w) (bField w) (aField w) = w := by
  rw [packWord, opField, cField, bField, aField,
    BitVec.extractLsb'_append_extractLsb'_eq_extractLsb' (show 192 = 128 + 64 from rfl),
    BitVec.extractLsb'_append_extractLsb'_eq_extractLsb' (show 128 = 64 + 64 from rfl),
    BitVec.extractLsb'_append_extractLsb'_eq_extractLsb' (show 64 = 0 + 64 from rfl)]
  exact BitVec.extractLsb'_eq_self

/-- Packed words are equal exactly when their fields are. -/
theorem packWord_inj {op op' : Nibble} {c c' b b' a a' : Word} :
    packWord op c b a = packWord op' c' b' a' ↔ op = op' ∧ c = c' ∧ b = b' ∧ a = a' := by
  constructor
  · intro h
    exact ⟨by simpa only [opField_packWord] using congrArg opField h,
      by simpa only [cField_packWord] using congrArg cField h,
      by simpa only [bField_packWord] using congrArg bField h,
      by simpa only [aField_packWord] using congrArg aField h⟩
  · rintro ⟨rfl, rfl, rfl, rfl⟩
    rfl

/-- Masking a word masks its four fields. -/
theorem and_packWord (w : CmdWord) (op : Nibble) (c b a : Word) :
    w &&& packWord op c b a
      = packWord (opField w &&& op) (cField w &&& c) (bField w &&& b) (aField w &&& a) := by
  rw [← packWord_and, packWord_fields]

/-! ### Half-word operands (R76) -/

theorem zext64_inj {v v' : Half} : zext64 v = zext64 v' ↔ v = v' := by
  simp only [← BitVec.toNat_inj, Machine.zext64_toNat]

/-- The low mask keeps exactly the low half. -/
theorem and_lowMask (v : Word) : v &&& 0xffffffff#64 = zext64 (low32 v) := by
  apply BitVec.eq_of_toNat_eq
  rw [Machine.zext64_toNat, Machine.low32_toNat, BitVec.toNat_and]
  exact Nat.and_two_pow_sub_one_eq_mod _ 32

/-! ### The fields of a word as numbers (R71, R76) -/

theorem aField_toNat (w : CmdWord) : (aField w).toNat = w.toNat % 2 ^ 64 := by
  simp [aField]

theorem bField_toNat (w : CmdWord) : (bField w).toNat = w.toNat / 2 ^ 64 % 2 ^ 64 := by
  simp [bField, Nat.shiftRight_eq_div_pow]

theorem cField_toNat (w : CmdWord) : (cField w).toNat = w.toNat / 2 ^ 128 % 2 ^ 64 := by
  simp [cField, Nat.shiftRight_eq_div_pow]

theorem low32_aField_toNat (w : CmdWord) : (low32 (aField w)).toNat = w.toNat % 2 ^ 32 := by
  rw [Machine.low32_toNat, aField_toNat, Nat.mod_mod_of_dvd _ (by decide)]

theorem low32_bField_toNat (w : CmdWord) : (low32 (bField w)).toNat = w.toNat / 2 ^ 64 % 2 ^ 32 := by
  rw [Machine.low32_toNat, bField_toNat, Nat.mod_mod_of_dvd _ (by decide)]

/-! ### What a word must hold to be a command -/

/-- The word carries the command: its opcode in `OP`, each operand in the bits its format names (R75, R76), in the order of
`packWord`. Nothing is asked of the other bits. -/
def Carries (w : CmdWord) : Instr → Prop
  | .seed1 seed => opField w = 0x1#4 ∧ low32 (aField w) = seed
  | .seed2 seedX seedY => opField w = 0x2#4 ∧ low32 (bField w) = seedY ∧ low32 (aField w) = seedX
  | .next => opField w = 0x3#4
  | .mulmod a b m => opField w = 0x4#4 ∧ cField w = m ∧ bField w = b ∧ aField w = a
  | .expmod b e m => opField w = 0x5#4 ∧ cField w = m ∧ bField w = e ∧ aField w = b
  | .isprp n k => opField w = 0x6#4 ∧ low32 (bField w) = k ∧ aField w = n

theorem Carries.opcode_eq {w : CmdWord} {i : Instr} (h : Carries w i) : i.opcode = opField w := by
  cases i with
  | next => exact h.symm
  | seed1 | seed2 | mulmod | expmod | isprp => exact h.1.symm

/-- The decoder answers the command the word carries. -/
theorem decode_eq_ok_iff_carries (w : CmdWord) (i : Instr) : decode w = .ok i ↔ Carries w i := by
  constructor
  · intro h
    unfold decode decodeFields at h
    split at h <;> cases h
    case h_1 hop => exact ⟨BitVec.eq_of_toNat_eq hop, rfl⟩
    case h_2 hop => exact ⟨BitVec.eq_of_toNat_eq hop, rfl, rfl⟩
    case h_3 hop => exact BitVec.eq_of_toNat_eq hop
    case h_4 hop => exact ⟨BitVec.eq_of_toNat_eq hop, rfl, rfl, rfl⟩
    case h_5 hop => exact ⟨BitVec.eq_of_toNat_eq hop, rfl, rfl, rfl⟩
    case h_6 hop => exact ⟨BitVec.eq_of_toNat_eq hop, rfl, rfl⟩
  · intro h
    rw [decode, ← h.opcode_eq]
    cases i with
    | next => rfl
    | seed1 => obtain ⟨-, rfl⟩ := h; rfl
    | seed2 => obtain ⟨-, rfl, rfl⟩ := h; rfl
    | mulmod => obtain ⟨-, rfl, rfl, rfl⟩ := h; rfl
    | expmod => obtain ⟨-, rfl, rfl, rfl⟩ := h; rfl
    | isprp => obtain ⟨-, rfl, rfl⟩ := h; rfl

/-- The bits of a command's format are those of its encoding exactly when the word carries it. -/
theorem and_usedBits_eq_encode_iff_carries (w : CmdWord) (i : Instr) : w &&& usedBits i = encode i ↔ Carries w i := by
  cases i with
  | seed1 | seed2 | next | mulmod | expmod | isprp =>
    simp only [usedBits, encode, Carries, and_packWord, packWord_inj, and_nibble, and_lowMask, zext64_inj,
      BitVec.and_zero, BitVec.and_allOnes, true_and, and_true]

/-- A word decodes to a command exactly when its used bits are those of the command's encoding. -/
theorem decode_eq_ok_iff (w : CmdWord) (i : Instr) : decode w = .ok i ↔ w &&& usedBits i = encode i :=
  (decode_eq_ok_iff_carries w i).trans (and_usedBits_eq_encode_iff_carries w i).symm

/-- What holds of the encoded word of each constructor holds of every command's. -/
theorem encode_statement (i : Instr) : Laws.Encoding.Statement i := by
  cases i with
  | seed1 seed => exact Laws.Encoding.seed1 seed
  | seed2 seedX seedY => exact Laws.Encoding.seed2 seedX seedY
  | next => exact Laws.Encoding.next
  | mulmod a b m => exact Laws.Encoding.mulmod a b m
  | expmod b e m => exact Laws.Encoding.expmod b e m
  | isprp n k => exact Laws.Encoding.isprp n k

/-- The encoding sets no bit outside the format. -/
theorem encode_and_usedBits (i : Instr) : encode i &&& usedBits i = encode i := by
  obtain ⟨-, -, hmask⟩ := encode_statement i
  exact hmask

theorem decode_encode (i : Instr) : decode (encode i) = .ok i :=
  (decode_eq_ok_iff _ i).2 (encode_and_usedBits i)

/-- Settles O2: the decoder and the mask test both say that the word carries the command, and an encoded command
passes the mask test. -/
theorem decodeEncodeAgree : Obligations.DecodeEncodeAgree :=
  ⟨decode_encode, decode_eq_ok_iff⟩

/-! ### Reserved opcodes (R77, R83) -/

theorem decodeFields_ok_or_illegalOp (op : Nibble) (a b c : Word) :
    (∃ i, decodeFields op a b c = .ok i) ∨ decodeFields op a b c = .error (.illegalOp op) := by
  unfold decodeFields
  split
  case h_7 => exact .inr rfl
  all_goals exact .inl ⟨_, rfl⟩

theorem decodeFields_eq_illegalOp_iff (op : Nibble) (a b c : Word) :
    decodeFields op a b c = .error (.illegalOp op) ↔ op.toNat = 0 ∨ 7 ≤ op.toNat := by
  unfold decodeFields
  split
  case h_7 h1 h2 h3 h4 h5 h6 =>
    simp only [true_iff]
    simp only [imp_false] at h1 h2 h3 h4 h5 h6
    omega
  all_goals
    simp only [reduceCtorEq, false_iff]
    omega

/-- Settles O3: `OP` alone decides between a command and ILLEGAL_OP, and a command's opcode is the word's because the word
carries it. -/
theorem decodeTotalByOpcode : Obligations.DecodeTotalByOpcode := fun w =>
  ⟨decodeFields_ok_or_illegalOp _ _ _ _, decodeFields_eq_illegalOp_iff _ _ _ _,
    fun i h => ((decode_eq_ok_iff_carries w i).1 h).opcode_eq⟩

end Sys2Proof

namespace Sys2Proof.Machine

/-! ### The edge that ends the latched command (spec 20_memory.md R55, 30_encoding.md R76, R77) -/

theorem step_eq_endLatched {s : State} (hr : s.nextInput.rst = false) (hp : s.ph = .busy) (hb : s.busyLeft = 0) :
    step s = endLatched s.clocked := by
  rw [step, edge_eq_busyEdge hr (s.clocked_ph.trans hp), busyEdge, s.clocked_busyLeft, hb]

theorem endLatched_of_ok {s : State} {i : Instr} (h : s.latched = .ok i) : endLatched s = exec i s := by
  simp only [endLatched, h]

theorem endLatched_of_error {s : State} {e : DecodeError} (h : s.latched = .error e) :
    endLatched s = raiseFault .illegalOp s := by
  simp only [endLatched, h]

/-- The latch filled from a word holds what the word decodes to, whatever the coming edge samples. -/
theorem State.latched_clocked_loadCommand (w : CmdWord) (s : State) : (s.loadCommand w).clocked.latched = decode w := rfl

theorem step_loadCommand {w : CmdWord} {i : Instr} (h : decode w = .ok i) (s : State) :
    step (s.loadCommand w) = exec i (s.loadCommand w).clocked := by
  rw [step_eq_endLatched rfl rfl rfl, endLatched_of_ok ((State.latched_clocked_loadCommand w s).trans h)]

/-- A command takes its operands from the decoded word: it neither reads nor writes the command latch (R27). -/
theorem exec_latch {i : Instr} {s t : State} (w : CmdWord) (h : exec i s = .next t) :
    exec i (s.latch w) = .next (t.latch w) := by
  cases i with
  | seed1 | seed2 | expmod => cases h; rfl
  | next =>
    simp only [exec, execNext, nextWith] at h ⊢
    split at h
    next hs => cases h; exact if_pos hs
    next hs => cases h; exact if_neg hs
  | mulmod =>
    simp only [exec, execMulmod] at h ⊢
    split at h
    next hm => cases h; exact if_pos hm
    next hm => cases h; exact if_neg hm
  | isprp =>
    simp only [exec, execIsprp, isprpWith] at h ⊢
    split at h
    next hn => cases h; exact if_pos hn
    next hn =>
      refine (if_neg hn).trans ?_
      split at h
      next hk => cases h; exact if_pos hk
      next hk => cases h; exact if_neg hk

theorem State.agrees_refl (s : State) : s.agrees s := by
  simp [State.agrees]

/-- Words with the same command end in states that differ in the command latch alone. -/
theorem step_loadCommand_of_same_command {w w' : CmdWord} {i : Instr} (h : decode w = .ok i) (h' : decode w' = .ok i)
    (s : State) :
    ∃ t, step (s.loadCommand w') = .next t ∧ step (s.loadCommand w) = .next (t.latch w) := by
  obtain ⟨t, ht, -⟩ := exec_end i (s.loadCommand w').clocked
  exact ⟨t, (step_loadCommand h' s).trans ht, (step_loadCommand h s).trans (exec_latch w ht)⟩

/-- Settles O5: words that agree on the used bits decode to the same command, which does not read the latch; the operands
are the fields the word carries. -/
theorem operandsReadAndUnusedBitsIgnored : Obligations.OperandsReadAndUnusedBitsIgnored := by
  refine ⟨fun s w w' i h hmask => ?_, fun w i h => ?_⟩
  · have h' : decode w' = .ok i := (decode_eq_ok_iff w' i).2 (hmask.trans ((decode_eq_ok_iff w i).1 h))
    obtain ⟨t', ht', ht⟩ := step_loadCommand_of_same_command h h' s
    exact ⟨_, t', ht, ht', State.agrees_refl _⟩
  · have hc := (decode_eq_ok_iff_carries w i).1 h
    cases i with
    | next => trivial
    | seed1 => obtain ⟨-, rfl⟩ := hc; exact low32_aField_toNat w
    | seed2 => obtain ⟨-, rfl, rfl⟩ := hc; exact ⟨low32_aField_toNat w, low32_bField_toNat w⟩
    | mulmod => obtain ⟨-, rfl, rfl, rfl⟩ := hc; exact ⟨aField_toNat w, bField_toNat w, cField_toNat w⟩
    | expmod => obtain ⟨-, rfl, rfl, rfl⟩ := hc; exact ⟨aField_toNat w, bField_toNat w, cField_toNat w⟩
    | isprp => obtain ⟨-, rfl, rfl⟩ := hc; exact ⟨aField_toNat w, low32_bField_toNat w⟩

/-- Settles O28: an accept latches the word without looking at it, and a latched reserved opcode decodes to no command, so
its end is the ILLEGAL_OP fault. -/
theorem illegalOpcodeFaults : Obligations.IllegalOpcodeFaults := by
  refine ⟨fun s hr hp hv => ⟨_, step_eq_accept hr hp hv, rfl, rfl⟩, fun s hr hp hb hop => ?_⟩
  have hl : s.clocked.latched = .error (.illegalOp s.op) := (decodeFields_eq_illegalOp_iff s.op s.ra s.rb s.rc).2 hop
  rw [step_eq_endLatched hr hp hb, endLatched_of_error hl]
  exact raiseFault_endsAs .illegalOp s.clocked

end Sys2Proof.Machine

namespace Sys2Proof.Machine

/-! ### The draw as numbers (spec 40_prng.md R101, R102, R109) -/

/-- No multiply-with-carry step leaves 64 bits (R109). -/
theorem lane_value_le (a : Half) (v : Word) :
    a.toNat * (v.toNat % 2 ^ 32) + v.toNat / 2 ^ 32 ≤ 2 ^ 64 - 2 ^ 32 := by
  have ha := a.isLt
  have hv := v.isLt
  have hmul : a.toNat * (v.toNat % 2 ^ 32) ≤ (2 ^ 32 - 1) * (2 ^ 32 - 1) :=
    Nat.mul_le_mul (by omega) (by omega)
  omega

theorem laneFn_toNat (a : Half) (v : Word) :
    (laneFn a v).toNat = a.toNat * (v.toNat % 2 ^ 32) + v.toNat / 2 ^ 32 := by
  have hle := lane_value_le a v
  simp only [laneFn, BitVec.toNat_add, BitVec.toNat_mul, zext64_toNat, low32_toNat, high32_toNat]
  rw [Nat.mod_eq_of_lt (a := a.toNat * _) (by omega), Nat.mod_eq_of_lt (by omega)]

theorem outFn_toNat (x y : Word) :
    (outFn x y).toNat = (x.toNat % 2 ^ 32 + y.toNat % 2 ^ 32) % 2 ^ 32 := by
  simp only [outFn, BitVec.toNat_add, low32_toNat]

/-- Settles O7: both lane steps stay within 64 bits, so the word arithmetic is the exact arithmetic. -/
theorem drawArithmeticExact : Obligations.DrawArithmeticExact := fun g x y =>
  ⟨laneFn_toNat g.aX x, laneFn_toNat g.aY y, lane_value_le g.aX x, lane_value_le g.aY y, outFn_toNat _ _⟩

/-! ### The lane fixed points (R110) -/

theorem laneFn_zero (a : Half) : laneFn a 0#64 = 0#64 := by
  apply BitVec.eq_of_toNat_eq
  simp [laneFn_toNat]

/-- The fixed point `A * 2^32 - 1` has high half `A - 1` and low half all ones. -/
theorem laneFn_fixed {a : Half} {v : Word} (ha : a ≠ 0#32) (hv : v.toNat = a.toNat * 2 ^ 32 - 1) :
    laneFn a v = v := by
  have hpos : 0 < a.toNat := Nat.pos_of_ne_zero fun h => ha (BitVec.eq_of_toNat_eq h)
  have hlow : v.toNat % 2 ^ 32 = 2 ^ 32 - 1 := by omega
  have hhigh : v.toNat / 2 ^ 32 = a.toNat - 1 := by omega
  apply BitVec.eq_of_toNat_eq
  rw [laneFn_toNat, hlow, hhigh, hv]
  omega

/-! ### The mix is a bijection that keeps 0 (R100, R110) -/

/-- A shift by more than half the width undoes itself: shifted twice, nothing is left. -/
theorem shiftXor_involutive : Function.Involutive fun v : Word => v ^^^ v >>> 33 := by
  intro v
  have htwice : v >>> 33 >>> 33 = 0#64 := by
    rw [← BitVec.shiftRight_add, BitVec.ushiftRight_eq_zero (by decide)]
  simp only [BitVec.ushiftRight_xor_distrib, htwice, BitVec.xor_zero]
  rw [BitVec.xor_assoc, BitVec.xor_self, BitVec.xor_zero]

/-- An odd number is coprime to `2^64`, so multiplying by it loses nothing. -/
theorem mul_odd_injective {c : Word} (hc : isOdd c = true) : Function.Injective fun v : Word => v * c := by
  intro v w h
  have hcop : Nat.gcd (2 ^ 64) c.toNat = 1 :=
    Nat.Coprime.pow_left 64 (Nat.coprime_two_left.2 (Nat.odd_iff.2 ((isOdd_iff c).1 hc)))
  have hmod : v.toNat * c.toNat ≡ w.toNat * c.toNat [MOD 2 ^ 64] := by
    simpa only [BitVec.toNat_mul, Nat.ModEq] using congrArg BitVec.toNat h
  exact BitVec.eq_of_toNat_eq ((hmod.cancel_right_of_coprime hcop).eq_of_lt_of_lt v.isLt w.isLt)

theorem mixRound_injective {c : Word} (hc : isOdd c = true) : Function.Injective (mixRound c) :=
  (mul_odd_injective hc).comp shiftXor_involutive.injective

theorem mixRound_zero (c : Word) : mixRound c 0#64 = 0#64 := by
  simp [mixRound]

theorem mixFn_zero (g : GenConsts) : mixFn g 0#64 = 0#64 := by
  simp only [mixFn, mixRound_zero]

/-- What R8's decidable constraints say of the mix multipliers. -/
theorem isOdd_mix_of_wellFormed {g : GenConsts} (h : g.wellFormed = true) :
    isOdd g.mixC0 = true ∧ isOdd g.mixC1 = true ∧ isOdd g.mixC2 = true := by
  simp only [GenConsts.wellFormed, Bool.and_eq_true] at h
  obtain ⟨⟨⟨-, h0⟩, h1⟩, h2⟩ := h
  exact ⟨h0, h1, h2⟩

/-- What R8's decidable constraints say of the XOR constants. -/
theorem seedXor_ne_of_wellFormed {g : GenConsts} (h : g.wellFormed = true) : g.seedXorX ≠ g.seedXorY := by
  simp only [GenConsts.wellFormed, Bool.and_eq_true, bne_iff_ne] at h
  obtain ⟨⟨⟨⟨-, hxor⟩, -⟩, -⟩, -⟩ := h
  exact hxor

theorem mixFn_injective {g : GenConsts} (h : g.wellFormed = true) : Function.Injective (mixFn g) := by
  obtain ⟨h0, h1, h2⟩ := isOdd_mix_of_wellFormed h
  exact (mixRound_injective h2).comp ((mixRound_injective h1).comp (mixRound_injective h0))

theorem mixFn_eq_zero_iff {g : GenConsts} (h : g.wellFormed = true) (v : Word) : mixFn g v = 0#64 ↔ v = 0#64 :=
  (mixFn_injective h).eq_iff' (mixFn_zero g)

/-- A seed has 32 bits, so it differs from a constant that has more. -/
theorem zext64_xor_ne_zero {c : Word} (hc : 2 ^ 32 ≤ c.toNat) (seed : Half) : zext64 seed ^^^ c ≠ 0#64 := by
  rw [Ne, BitVec.xor_eq_zero_iff]
  rintro rfl
  rw [zext64_toNat] at hc
  exact absurd seed.isLt (Nat.not_lt.2 hc)

/-- Settles O8: the fixed points as numbers; each mix round is injective (an involution, then an odd multiplier), so the mix
is 0 at 0 alone. -/
theorem degenerateLaneValues : Obligations.DegenerateLaneValues := by
  refine ⟨laneFn_zero, fun _ _ ha hv => laneFn_fixed ha hv, fun g hg => ?_⟩
  exact ⟨Finite.injective_iff_bijective.1 (mixFn_injective hg), mixFn_zero g,
    fun _ => mixFn_eq_zero_iff hg _, fun _ => mixFn_eq_zero_iff hg _,
    fun hc sx => (mixFn_eq_zero_iff hg _).not.2 (zext64_xor_ne_zero hc sx),
    fun hc sy => (mixFn_eq_zero_iff hg _).not.2 (zext64_xor_ne_zero hc sy)⟩

/-- Settles O6: the two intermediate values are those after the first and the second round. -/
theorem mixFnThreeRounds : Obligations.MixFnThreeRounds := fun _ _ =>
  ⟨_, _, mixRound_toNat _ _, mixRound_toNat _ _, mixRound_toNat _ _⟩

/-! ### The effects of the generator's commands (spec 40_prng.md R105 to R107) -/

/-- Settles O10: SEED2 ends normally in the seeded state; the constants of the worked examples are computed. -/
theorem seed2Effect : Obligations.Seed2Effect :=
  ⟨fun sx sy s => respond_endsAs 0#64 (s.seedWith consts sx sy), fun _ _ _ => rfl,
    by decide, by decide, by decide, by decide⟩

/-- One seed gives two lanes, since the XOR constants differ and the mix keeps them apart (R106). -/
theorem seedLaneX_ne_seedLaneY {g : GenConsts} (h : g.wellFormed = true) (seed : Half) :
    seedLaneX g seed ≠ seedLaneY g seed := fun heq =>
  seedXor_ne_of_wellFormed h ((BitVec.xor_right_inj _).1 (mixFn_injective h heq))

/-- Settles O11: SEED1 is SEED2 of the seed twice, whose effect is known. -/
theorem seed1Effect : Obligations.Seed1Effect := by
  obtain ⟨heffect, -⟩ := seed2Effect
  exact ⟨fun _ _ => rfl, fun seed s => heffect seed seed s, fun _ _ _ => rfl,
    fun _ seed h => seedLaneX_ne_seedLaneY h seed, by decide, by decide⟩

theorem nextWith_of_seeded {s : State} (g : GenConsts) (h : s.seeded = true) :
    nextWith g s
      = respond (zext64 (drawFn g s.x s.y).out) (s.withLanes (drawFn g s.x s.y).x (drawFn g s.x s.y).y) :=
  if_pos h

theorem nextWith_of_unseeded {s : State} (g : GenConsts) (h : s.seeded = false) :
    nextWith g s = raiseFault .unseeded s :=
  if_neg (by simp [h])

/-- Settles O12: a seeded NEXT ends normally with the lanes and the output of one draw, whose arithmetic is exact; an unseeded
one ends with the fault. -/
theorem nextEffect : Obligations.NextEffect := by
  refine ⟨fun s hs => ?_, fun s hs => ?_, fun _ _ _ => rfl, by decide, by decide⟩
  · obtain ⟨hx, hy, -, -, hout⟩ := drawArithmeticExact consts s.x s.y
    refine ⟨_, _, zext64 (drawFn consts s.x s.y).out, hx, hy, (zext64_toNat _).trans hout, ?_⟩
    rw [exec, execNext, nextWith_of_seeded consts hs]
    exact respond_endsAs _ (s.withLanes _ _)
  · rw [exec, execNext, nextWith_of_unseeded consts hs]
    exact raiseFault_endsAs .unseeded s

/-! ### What a command reads of the state (spec 40_prng.md R108)

A command reads the lanes and `SEEDED` and nothing else of the state, so states that hold the same generator state give the same
responses for ever. -/

/-- The states hold the same generator state: both lanes and `SEEDED` (R21, R22, R24). -/
def State.sameGenerator (s t : State) : Prop :=
  s.x = t.x ∧ s.y = t.y ∧ s.seeded = t.seeded

/-- Both outcomes are ends of a command, with one response and one generator state. -/
def sameEnd (o o' : Host.Outcome State Fault Refusal) : Prop :=
  ∃ t t', o = .next t ∧ o' = .next t' ∧ t.response = t'.response ∧ t.sameGenerator t'

theorem respond_sameEnd (v : Word) {s s' : State} (h : s.sameGenerator s') : sameEnd (respond v s) (respond v s') :=
  ⟨_, _, rfl, rfl, rfl, h⟩

theorem raiseFault_sameEnd (c : Cause) {s s' : State} (h : s.sameGenerator s') :
    sameEnd (raiseFault c s) (raiseFault c s') :=
  ⟨_, _, rfl, rfl, rfl, h⟩

/-- Seeding leaves nothing of the old generator state. -/
theorem exec_seed2_sameEnd (sx sy : Half) (s s' : State) : sameEnd (exec (.seed2 sx sy) s) (exec (.seed2 sx sy) s') :=
  respond_sameEnd 0#64 ⟨rfl, rfl, rfl⟩

theorem nextWith_sameEnd (g : GenConsts) {s s' : State} (h : s.sameGenerator s') :
    sameEnd (nextWith g s) (nextWith g s') := by
  obtain ⟨hx, hy, hsd⟩ := h
  simp only [nextWith, ← hx, ← hy, ← hsd]
  split
  · exact respond_sameEnd _ ⟨rfl, rfl, hsd⟩
  · exact raiseFault_sameEnd _ ⟨hx, hy, hsd⟩

theorem isprpWith_sameEnd (g : GenConsts) (n : Word) (k : Half) {s s' : State} (h : s.sameGenerator s') :
    sameEnd (isprpWith g n k s) (isprpWith g n k s') := by
  obtain ⟨hx, hy, hsd⟩ := h
  simp only [isprpWith, ← hx, ← hy, ← hsd]
  split
  · exact raiseFault_sameEnd _ ⟨hx, hy, hsd⟩
  · split
    · exact raiseFault_sameEnd _ ⟨hx, hy, hsd⟩
    · exact respond_sameEnd _ ⟨rfl, rfl, hsd⟩

/-- No command reads more of the state than the generator state. -/
theorem exec_sameEnd (i : Instr) {s s' : State} (h : s.sameGenerator s') : sameEnd (exec i s) (exec i s') := by
  cases i with
  | seed1 seed => exact exec_seed2_sameEnd seed seed s s'
  | seed2 sx sy => exact exec_seed2_sameEnd sx sy s s'
  | next => exact nextWith_sameEnd consts h
  | mulmod a b m =>
    simp only [exec, execMulmod]
    split
    · exact raiseFault_sameEnd _ h
    · exact respond_sameEnd _ h
  | expmod b e m => exact respond_sameEnd _ h
  | isprp n k => exact isprpWith_sameEnd consts n k h

/-- MULMOD and EXPMOD leave the generator state as it is (R60, R108). -/
theorem sameGenerator_of_exec_arithmetic {i : Instr} {s t : State} (hi : isArithmetic i = true)
    (h : exec i s = .next t) : t.sameGenerator s := by
  cases i with
  | seed1 | seed2 | next | isprp => cases hi
  | mulmod =>
    simp only [exec, execMulmod] at h
    split at h <;> cases h <;> exact ⟨rfl, rfl, rfl⟩
  | expmod => cases h; exact ⟨rfl, rfl, rfl⟩

/-! ### The streams of responses -/

theorem responses_cons {i : Instr} {s t : State} (h : exec i s = .next t) (p : List Instr) :
    responses (i :: p) s = t.response :: responses p t := by
  simp only [responses, h]

theorem nextOutputs_cons {i : Instr} {s t : State} (h : exec i s = .next t) (p : List Instr) :
    nextOutputs (i :: p) s = if i = .next then t.response :: nextOutputs p t else nextOutputs p t := by
  simp only [nextOutputs, h]

/-- States with the same generator state answer every program alike. -/
theorem responses_congr (p : List Instr) {s s' : State} (h : s.sameGenerator s') : responses p s = responses p s' := by
  induction p generalizing s s' with
  | nil => rfl
  | cons i p ih =>
    obtain ⟨t, t', ht, ht', hrsp, hgen⟩ := exec_sameEnd i h
    rw [responses_cons ht, responses_cons ht', hrsp, ih hgen]

/-- After a seeding the state before it is forgotten. -/
theorem responses_seed2 (p : List Instr) (sx sy : Half) (s s' : State) :
    responses (.seed2 sx sy :: p) s = responses (.seed2 sx sy :: p) s' := by
  obtain ⟨t, t', ht, ht', hrsp, hgen⟩ := exec_seed2_sameEnd sx sy s s'
  rw [responses_cons ht, responses_cons ht', hrsp, responses_congr p hgen]

/-- Without its MULMOD and EXPMOD commands, a program run from the same generator state gives the same NEXT responses. -/
theorem nextOutputs_filter_arithmetic (p : List Instr) {s s' : State} (h : s.sameGenerator s') :
    nextOutputs p s = nextOutputs (p.filter fun i => !isArithmetic i) s' := by
  induction p generalizing s s' with
  | nil => rfl
  | cons i p ih =>
    obtain ⟨t, t', ht, ht', hrsp, hgen⟩ := exec_sameEnd i h
    rw [nextOutputs_cons ht]
    cases hi : isArithmetic i with
    | true =>
      obtain ⟨htx, hty, htsd⟩ := sameGenerator_of_exec_arithmetic hi ht
      obtain ⟨hx, hy, hsd⟩ := h
      have hne : i ≠ .next := by rintro rfl; cases hi
      rw [if_neg hne, List.filter_cons_of_neg (by simp [hi])]
      exact ih ⟨htx.trans hx, hty.trans hy, htsd.trans hsd⟩
    | false =>
      rw [List.filter_cons_of_pos (by simp [hi]), nextOutputs_cons ht', hrsp, ih hgen]

/-! ### The lanes an ISPRP leaves (43_rabin_miller.md R153, R156) -/

/-- Every round draws twice, so the rounds leave the lanes of an even number of draws. -/
theorem isPrpLoop_lanes (g : GenConsts) (n d : Word) (k : Nat) (x y : Word) :
    ∃ r, ((isPrpLoop g n d k x y).x, (isPrpLoop g n d k x y).y) = lanesAfter g (2 * r) x y := by
  induction k generalizing x y with
  | zero => exact ⟨0, rfl⟩
  | succ k ih =>
    simp only [isPrpLoop]
    split
    · exact ⟨1, rfl⟩
    · obtain ⟨r, hr⟩ := ih (drawWitness g n x y).x (drawWitness g n x y).y
      exact ⟨r + 1, hr⟩

theorem isprpWith_lanes {g : GenConsts} {n : Word} {k : Half} {s t : State} (h : isprpWith g n k s = .next t) :
    ∃ r, (t.x, t.y) = lanesAfter g (2 * r) s.x s.y := by
  simp only [isprpWith] at h
  split at h
  · cases h; exact ⟨0, rfl⟩
  · split at h
    · cases h; exact ⟨0, rfl⟩
    · cases h; exact isPrpLoop_lanes g n (stripFn n) k.toNat s.x s.y

/-- Settles O13: seeding forgets the generator state, which is all that a command reads; MULMOD and EXPMOD keep it; ISPRP
moves the lanes by its rounds' draws. -/
theorem seededStreamDeterministic : Obligations.SeededStreamDeterministic :=
  ⟨responses_seed2, fun p seed => responses_seed2 p seed seed,
    fun p _ => nextOutputs_filter_arithmetic p ⟨rfl, rfl, rfl⟩, fun _ _ _ _ => isprpWith_lanes⟩

end Sys2Proof.Machine

namespace Sys2Proof.Machine

/-! ### The modular product as a number (spec 41_mulmod.md R130 to R132, R134) -/

/-- The result is canonical (R132). -/
theorem mulModFn_lt (a b : Word) {m : Word} (hm : 0 < m.toNat) : (mulModFn a b m).toNat < m.toNat := by
  rw [mulModFn_toNat a b m hm]
  exact Nat.mod_lt _ hm

theorem execMulmod_of_gt_one {m : Word} (a b : Word) (s : State) (hm : 1 < m.toNat) :
    execMulmod a b m s = respond (mulModFn a b m) s :=
  if_neg (Nat.not_le_of_gt hm)

theorem execMulmod_of_le_one {m : Word} (a b : Word) (s : State) (hm : m.toNat ≤ 1) :
    execMulmod a b m s = raiseFault .badModulus s :=
  if_pos hm

/-- Settles O14: above 1 the guard lets MULMOD respond the function's value, a remainder by `m`; at 0 and 1 it faults. -/
theorem mulmodExactRemainder : Obligations.MulmodExactRemainder := by
  refine ⟨fun a b m s hm => ?_, fun a b m s hm => ?_, fun _ _ _ => rfl⟩
  · have hpos : 0 < m.toNat := by omega
    refine ⟨mulModFn a b m, mulModFn_toNat a b m hpos, mulModFn_lt a b hpos, ?_⟩
    rw [exec, execMulmod_of_gt_one a b s hm]
    exact respond_endsAs _ s
  · rw [exec, execMulmod_of_le_one a b s hm]
    exact raiseFault_endsAs .badModulus s

theorem mulModFn_comm (a b m : Word) : mulModFn a b m = mulModFn b a m := by
  simp only [mulModFn, exactProduct, BitVec.mul_comm (zext128 a)]

theorem mulModFn_modFn (a b : Word) {m : Word} (hm : 0 < m.toNat) :
    mulModFn (modFn a m) (modFn b m) m = mulModFn a b m := by
  apply BitVec.eq_of_toNat_eq
  rw [mulModFn_toNat _ _ m hm, mulModFn_toNat _ _ m hm, modFn_toNat, modFn_toNat, ← Nat.mul_mod]

theorem mulModFn_one (a : Word) {m : Word} (hm : 0 < m.toNat) : mulModFn a 1#64 m = modFn a m := by
  apply BitVec.eq_of_toNat_eq
  rw [mulModFn_toNat _ _ m hm, modFn_toNat, BitVec.toNat_ofNat, Nat.one_mod, Nat.mul_one]

theorem mulModFn_zero (a : Word) {m : Word} (hm : 0 < m.toNat) : mulModFn a 0#64 m = 0#64 := by
  apply BitVec.eq_of_toNat_eq
  rw [mulModFn_toNat _ _ m hm, BitVec.toNat_ofNat, Nat.zero_mod, Nat.mul_zero, Nat.zero_mod]

/-- Reducing the product of two factors before multiplying by the third loses nothing. -/
theorem mulModFn_mulModFn_toNat (a b c : Word) {m : Word} (hm : 0 < m.toNat) :
    (mulModFn (mulModFn a b m) c m).toNat = a.toNat * b.toNat * c.toNat % m.toNat := by
  rw [mulModFn_toNat _ _ m hm, mulModFn_toNat _ _ m hm, Nat.mod_mul_mod]

theorem mulModFn_assoc (a b c : Word) {m : Word} (hm : 0 < m.toNat) :
    mulModFn (mulModFn a b m) c m = mulModFn a (mulModFn b c m) m := by
  apply BitVec.eq_of_toNat_eq
  rw [mulModFn_comm a (mulModFn b c m), mulModFn_mulModFn_toNat a b c hm, mulModFn_mulModFn_toNat b c a hm,
    Nat.mul_assoc, Nat.mul_comm a.toNat]

/-- Settles O15: each law is one of multiplication, carried through the remainder. -/
theorem modularProductLaws : Obligations.ModularProductLaws := by
  intro a b c m hm
  have hpos : 0 < m.toNat := by omega
  exact ⟨mulModFn_comm a b m, (mulModFn_modFn a b hpos).symm, mulModFn_one a hpos, mulModFn_zero a hpos,
    mulModFn_assoc a b c hpos, mulModFn_mulModFn_toNat a b c hpos⟩

/-! ### The restoring division (spec 41_mulmod.md R133) -/

/-- Shifting a product bit into a remainder of 64 bits loses nothing in 65 bits. -/
theorem shiftIn_toNat (p : Bool) {rem : BitVec 65} (h : rem.toNat < 2 ^ 64) :
    (rem <<< 1 ||| (BitVec.ofBool p).setWidth 65).toNat = 2 * rem.toNat + p.toNat := by
  have hp : p.toNat < 2 ^ 1 := p.toNat_lt
  have hbit : ((BitVec.ofBool p).setWidth 65).toNat = p.toNat := by cases p <;> rfl
  have hshift : (rem <<< 1).toNat = 2 ^ 1 * rem.toNat := by
    rw [BitVec.toNat_shiftLeft, Nat.shiftLeft_eq, Nat.mod_eq_of_lt (by omega), Nat.mul_comm]
  rw [BitVec.toNat_or, hshift, hbit, ← Nat.two_pow_add_eq_or_of_lt hp, pow_one]

/-- One iteration from a canonical remainder is a reduction by `m`: twice the remainder and a bit is below `2 * m`, so one
subtraction is enough. -/
theorem reduceStep_toNat {m : Word} (p : Bool) {rem : BitVec 65} (h : rem.toNat < m.toNat) :
    (reduceStep m p rem).toNat = (2 * rem.toNat + p.toNat) % m.toNat := by
  have hm := m.isLt
  have hp := p.toNat_lt
  have hshift := shiftIn_toNat p (h.trans hm)
  have hmod : (m.setWidth 65).toNat = m.toNat := BitVec.toNat_setWidth_of_le (by omega)
  simp only [reduceStep, BitVec.le_def, hshift, hmod]
  split
  next hle =>
    rw [BitVec.toNat_sub_of_le (by rwa [BitVec.le_def, hshift, hmod]), hshift, hmod,
      Nat.mod_eq_sub_mod hle, Nat.mod_eq_of_lt (by omega)]
  next hlt => rw [hshift, Nat.mod_eq_of_lt (by omega)]

/-- The bits of the product from `i` up are those above `i` with bit `i` shifted in. -/
theorem div_two_pow_eq_shiftIn (prod : Wide) (i : Nat) :
    prod.toNat / 2 ^ i = 2 * (prod.toNat / 2 ^ (i + 1)) + (prod.getLsbD i).toNat := by
  rw [BitVec.getLsbD, Nat.toNat_testBit, Nat.pow_succ, ← Nat.div_div_eq_div_mul, Nat.div_add_mod]

/-- The invariant of R133: the iteration for bit `i` takes the remainder of the bits above `i` to that of the bits from `i`
up. -/
theorem reduceStep_keeps_remainder {m : Word} {prod : Wide} {i : Nat} {rem : BitVec 65} (hm : 0 < m.toNat)
    (h : rem.toNat = prod.toNat / 2 ^ (i + 1) % m.toNat) :
    (reduceStep m (prod.getLsbD i) rem).toNat = prod.toNat / 2 ^ i % m.toNat := by
  have hlt : rem.toNat < m.toNat := h ▸ Nat.mod_lt _ hm
  rw [reduceStep_toNat _ hlt, h, div_two_pow_eq_shiftIn prod i, Nat.add_mod, Nat.mul_mod_mod, ← Nat.add_mod]

/-- The iterations for the bits below `i` complete the remainder of the whole product. -/
theorem reduceLoop_toNat {m : Word} {prod : Wide} (hm : 0 < m.toNat) (i : Nat) {rem : BitVec 65}
    (h : rem.toNat = prod.toNat / 2 ^ i % m.toNat) :
    (reduceLoop m prod i rem).toNat = prod.toNat % m.toNat := by
  induction i generalizing rem with
  | zero => rw [reduceLoop, h, Nat.pow_zero, Nat.div_one]
  | succ i ih => exact ih (reduceStep_keeps_remainder hm h)

/-- 128 iterations from 0 give the function: no bit of the product stands above bit 127. -/
theorem mulModSerial_eq (a b : Word) {m : Word} (hm : 0 < m.toNat) : mulModSerial a b m = mulModFn a b m := by
  have hstart : (0#65).toNat = (exactProduct a b).toNat / 2 ^ 128 % m.toNat := by
    rw [Nat.div_eq_of_lt (exactProduct a b).isLt, Nat.zero_mod, BitVec.toNat_zero]
  have hend := reduceLoop_toNat hm 128 hstart
  rw [exactProduct_toNat, ← mulModFn_toNat a b m hm] at hend
  apply BitVec.eq_of_toNat_eq
  rw [mulModSerial, BitVec.toNat_setWidth, hend, Nat.mod_eq_of_lt (mulModFn a b m).isLt]

/-- Settles O16: each iteration keeps the invariant and leaves a canonical remainder, and 128 of them give `MulModFn`. -/
theorem serialReductionExact : Obligations.SerialReductionExact := by
  refine ⟨fun m prod i rem hm _ h => ?_, fun a b m hm => mulModSerial_eq a b (by omega)⟩
  have hpos : 0 < m.toNat := by omega
  have hstep := reduceStep_keeps_remainder hpos h
  have hlt : rem.toNat < m.toNat := h ▸ Nat.mod_lt _ hpos
  have hm64 := m.isLt
  exact ⟨hstep, hstep ▸ Nat.mod_lt _ hpos, by omega⟩

end Sys2Proof.Machine

namespace Sys2Proof.Machine

/-! ### The exponent's bits (spec 00_scope.md R12, 42_expmod.md R140) -/

theorem msbFrom_le (e : Word) (i : Nat) : msbFrom e i ≤ i := by
  induction i with
  | zero => exact le_rfl
  | succ i ih =>
    rw [msbFrom]
    split
    · exact le_rfl
    · exact ih.trans i.le_succ

/-- `0 <= msb(e) <= 63` (R12). -/
theorem msb_le (e : Word) : msb e ≤ 63 :=
  msbFrom_le e 63

/-- The bits of the exponent from `i` up are those above `i` with bit `i` shifted in: it is so for a product's 128 bits, and
the exponent widened is one. -/
theorem exponent_div_two_pow_eq_shiftIn (e : Word) (i : Nat) :
    e.toNat / 2 ^ i = 2 * (e.toNat / 2 ^ (i + 1)) + (e.getLsbD i).toNat := by
  have hwide : (zext128 e).toNat = e.toNat := BitVec.toNat_setWidth_of_le (by omega)
  have h := div_two_pow_eq_shiftIn (zext128 e) i
  rwa [BitVec.getLsbD, hwide] at h

/-- From the highest set bit up the exponent reads 1. -/
theorem div_two_pow_msbFrom {e : Word} (i : Nat) (hpos : 0 < e.toNat) (hlt : e.toNat < 2 ^ (i + 1)) :
    e.toNat / 2 ^ msbFrom e i = 1 := by
  induction i with
  | zero => rw [msbFrom, Nat.pow_zero, Nat.div_one]; omega
  | succ i ih =>
    have hbit := exponent_div_two_pow_eq_shiftIn e (i + 1)
    rw [Nat.div_eq_of_lt hlt] at hbit
    rw [msbFrom]
    split
    next hset => rw [hbit, hset]; rfl
    next hclear =>
      rw [Bool.not_eq_true] at hclear
      rw [hclear] at hbit
      exact ih (Nat.lt_of_div_eq_zero (Nat.two_pow_pos _) hbit)

theorem div_two_pow_msb {e : Word} (hpos : 0 < e.toNat) : e.toNat / 2 ^ msb e = 1 :=
  div_two_pow_msbFrom 63 hpos e.isLt

/-! ### Square-and-multiply as a power (spec 42_expmod.md R140, R143) -/

theorem expStep_toNat (b acc : Word) {m : Word} (p : Bool) (hm : 0 < m.toNat) :
    (expStep b m p acc).toNat = acc.toNat ^ 2 * b.toNat ^ p.toNat % m.toNat := by
  cases p with
  | false => rw [expStep, if_neg Bool.false_ne_true, mulModFn_toNat _ _ m hm, Bool.toNat_false, pow_zero, mul_one, pow_two]
  | true => rw [expStep, if_pos rfl, mulModFn_mulModFn_toNat _ _ _ hm, Bool.toNat_true, pow_one, pow_two]

/-- The invariant of R143 (1): the iteration for bit `i` takes the power by the exponent's bits above `i` to that by its bits
from `i` up. -/
theorem expStep_keeps_power {b e m acc : Word} {i : Nat} (hm : 0 < m.toNat)
    (h : acc.toNat = b.toNat ^ (e.toNat / 2 ^ (i + 1)) % m.toNat) :
    (expStep b m (e.getLsbD i) acc).toNat = b.toNat ^ (e.toNat / 2 ^ i) % m.toNat := by
  rw [expStep_toNat _ _ _ hm, h, Nat.mul_mod, ← Nat.pow_mod, ← Nat.mul_mod, ← pow_mul', ← pow_add,
    ← exponent_div_two_pow_eq_shiftIn]

/-- The iterations for the bits below `i` complete the power by the whole exponent. -/
theorem expLoop_toNat {b e m : Word} (hm : 0 < m.toNat) (i : Nat) {acc : Word}
    (h : acc.toNat = b.toNat ^ (e.toNat / 2 ^ i) % m.toNat) :
    (expLoop b e m i acc).toNat = b.toNat ^ e.toNat % m.toNat := by
  induction i generalizing acc with
  | zero => rw [expLoop, h, Nat.pow_zero, Nat.div_one]
  | succ i ih => exact ih (expStep_keeps_power hm h)

/-- The accumulator starts at the power by the exponent's leading bit. -/
theorem modFn_eq_power_msb (b m : Word) {e : Word} (he : 0 < e.toNat) :
    (modFn b m).toNat = b.toNat ^ (e.toNat / 2 ^ msb e) % m.toNat := by
  rw [modFn_toNat, div_two_pow_msb he, pow_one]

/-- `ExpModFn` as a natural number, its tests in the order of R140. -/
theorem expModFn_toNat (b e m : Word) :
    (expModFn b e m).toNat
      = if b.toNat = 0 ∨ m.toNat ≤ 1 then 0
        else if e.toNat = 0 then 1
        else b.toNat ^ e.toNat % m.toNat := by
  have hguard : (b = 0#64 ∨ m ≤ 1#64) ↔ (b.toNat = 0 ∨ m.toNat ≤ 1) := or_congr BitVec.toNat_inj.symm Iff.rfl
  have hexp : e = 0#64 ↔ e.toNat = 0 := BitVec.toNat_inj.symm
  simp only [expModFn, hguard, hexp]
  split
  next => rfl
  next hg =>
    split
    next => rfl
    next he => exact expLoop_toNat (by omega) _ (modFn_eq_power_msb b m (Nat.pos_of_ne_zero he))

/-- Settles O17: EXPMOD responds its function's value, and square-and-multiply from the leading bit computes the power. -/
theorem expmodPower : Obligations.ExpmodPower :=
  ⟨fun b e m s => ⟨expModFn b e m, expModFn_toNat b e m, respond_endsAs _ s⟩, fun _ _ _ => rfl, by decide, by decide⟩

/-! ### The micro-steps of EXPMOD (spec 42_expmod.md R142) -/

/-- The end of a command forgets the working registers (R34), so it ends alike whatever they held. -/
theorem State.endCommand_withWork (c : Cause) (v : Word) (wk : Work) (s : State) :
    (s.withWork wk).endCommand c v = s.endCommand c v :=
  rfl

/-- The registers after E5, the squaring for the next lower bit. -/
def State.afterSquare (s : State) : State :=
  s.withWork { s.work with bit := s.work.bit - 1#6, acc := mulModFn s.work.acc s.work.acc s.rc }

/-- The registers after E6: `BIT` has moved to the next lower bit and `ACC` has taken the whole iteration for it. -/
def State.afterExpRound (s : State) : State :=
  s.withWork
    { s.work with
      bit := s.work.bit - 1#6
      acc := expStep s.ra s.rc (s.rb.getLsbD (s.work.bit - 1#6).toNat) s.work.acc }

/-- E6 multiplies by the base when the bit is set, which completes the iteration. -/
theorem microStep_e6_afterSquare (g : GenConsts) (s : State) :
    microStep g ⟨.e6, s.afterSquare⟩ = ⟨.e7, s.afterExpRound⟩ := by
  rw [State.afterExpRound]
  cases hbit : s.rb.getLsbD (s.work.bit - 1#6).toNat with
  | false => exact if_neg (Bool.eq_false_iff.mp hbit)
  | true => exact if_pos hbit

/-- With a bit left, E3 to E7 are one iteration of the loop and lead back to E3. -/
theorem microRun_e3_round (g : GenConsts) (n : Nat) {s : State} (h : s.work.bit ≠ 0#6) :
    microRun g (n + 5) ⟨.e3, s⟩ = microRun g n ⟨.e3, s.afterExpRound⟩ :=
  calc
    _ = microRun g (n + 4) ⟨.e4, s⟩ := congrArg (microRun g (n + 4)) (if_neg h)
    _ = microRun g (n + 2) ⟨.e6, s.afterSquare⟩ := rfl
    _ = microRun g (n + 1) ⟨.e7, s.afterExpRound⟩ := congrArg (microRun g (n + 1)) (microStep_e6_afterSquare g s)
    _ = microRun g n ⟨.e3, s.afterExpRound⟩ := rfl

/-- From E3 the command ends with what the iterations for the bits below `BIT` make of `ACC`. -/
theorem microRun_e3 (g : GenConsts) (i : Nat) {s : State} (h : s.work.bit.toNat = i) :
    microRun g (5 * i + 1) ⟨.e3, s⟩ = ⟨.done, s.endCommand .none (expLoop s.ra s.rb s.rc i s.work.acc)⟩ := by
  induction i generalizing s with
  | zero => exact if_pos (BitVec.eq_of_toNat_eq h)
  | succ i ih =>
    have hne : s.work.bit ≠ 0#6 := fun h0 => by simp [h0] at h
    have hnext : (s.work.bit - 1#6).toNat = i := by bv_omega
    calc
      _ = microRun g (5 * i + 1) ⟨.e3, s.afterExpRound⟩ := microRun_e3_round g (5 * i + 1) hne
      _ = ⟨.done, s.afterExpRound.endCommand .none (expLoop s.ra s.rb s.rc i s.afterExpRound.work.acc)⟩ := ih hnext
      _ = _ := by rw [State.afterExpRound, State.endCommand_withWork, State.withWork_work, hnext, expLoop]

/-- The micro-steps take each of the three ways of R140 to the end. -/
theorem microRun_e0 (g : GenConsts) (s : State) :
    ∃ n, microRun g n ⟨.e0, s⟩ = ⟨.done, s.endCommand .none (expModFn s.ra s.rb s.rc)⟩ := by
  rw [expModFn]
  split
  next hg => exact ⟨1, if_pos hg⟩
  next hg =>
    have he0 : microStep g ⟨.e0, s⟩ = ⟨.e1, s⟩ := if_neg hg
    split
    next he => exact ⟨2, by rw [microRun, he0]; exact if_pos he⟩
    next he =>
      have he1 : microStep g ⟨.e1, s⟩ = ⟨.e2, s⟩ := if_neg he
      have hbit : (BitVec.ofNat 6 (msb s.rb)).toNat = msb s.rb :=
        Nat.mod_eq_of_lt (Nat.lt_succ_of_le (msb_le s.rb))
      refine ⟨5 * msb s.rb + 1 + 3, ?_⟩
      rw [microRun, he0, microRun, he1]
      exact microRun_e3 g (msb s.rb)
        (s := s.withWork { s.work with bit := BitVec.ofNat 6 (msb s.rb), acc := modFn s.ra s.rc }) hbit

/-- Settles O49: the micro-steps end as their function's value is responded, the working registers forgotten by both. -/
theorem expmodMicroRefines : Obligations.ExpmodMicroRefines := fun s =>
  have ⟨n, hn⟩ := microRun_e0 consts s
  ⟨n, _, hn, _, rfl, State.agrees_rfl _⟩

end Sys2Proof.Machine

namespace Sys2Proof.Machine

/-! ### The candidate and its odd part (spec 43_rabin_miller.md R150, R161) -/

theorem LegalCandidate.toNat_pred {n : Word} (hn : LegalCandidate n) : (n - 1#64).toNat = n.toNat - 1 :=
  BitVec.toNat_sub_of_le (Nat.le_of_lt (Nat.lt_of_succ_lt hn.1))

theorem LegalCandidate.pred_pos {n : Word} (hn : LegalCandidate n) : 0 < n.toNat - 1 :=
  Nat.sub_pos_of_lt (Nat.lt_of_succ_lt hn.1)

/-- `n - 1` of a candidate is even: its cofactor of an odd number has a factor of two. -/
theorem LegalCandidate.cofactor_pos {n d : Word} {s : Nat} (hn : LegalCandidate n) (hd : d.toNat % 2 = 1)
    (hs : n.toNat - 1 = d.toNat * 2 ^ s) : 0 < s := by
  obtain ⟨-, hodd⟩ := hn
  refine Nat.pos_of_ne_zero ?_
  rintro rfl
  omega

/-- The strip loop takes all factors of two out of a non-zero value its limit is enough for. -/
theorem stripLoop_odd_part (fuel : Nat) {d : Word} (hpos : 0 < d.toNat) (hlt : d.toNat < 2 ^ fuel) :
    (stripLoop fuel d).toNat % 2 = 1 ∧ ∃ s < fuel, d.toNat = (stripLoop fuel d).toNat * 2 ^ s := by
  induction fuel generalizing d with
  | zero => omega
  | succ fuel ih =>
    rw [stripLoop]
    split
    next hodd => exact ⟨(isOdd_iff d).1 hodd, 0, fuel.succ_pos, (Nat.mul_one _).symm⟩
    next heven =>
      rw [isOdd_iff] at heven
      have hhalf : (d >>> 1).toNat = d.toNat / 2 := by rw [BitVec.toNat_ushiftRight, Nat.shiftRight_one]
      obtain ⟨hodd, s, hs, heq⟩ := ih (d := d >>> 1) (by omega) (by omega)
      refine ⟨hodd, s + 1, Nat.succ_lt_succ hs, ?_⟩
      rw [Nat.pow_succ, ← Nat.mul_assoc, ← heq]
      omega

theorem stripFn_odd_part {n : Word} (hn : LegalCandidate n) :
    (stripFn n).toNat % 2 = 1 ∧ ∃ s < 64, n.toNat - 1 = (stripFn n).toNat * 2 ^ s := by
  have hpos := hn.pred_pos
  rw [← hn.toNat_pred] at hpos ⊢
  exact stripLoop_odd_part 64 hpos (n - 1#64).isLt

/-- Settles O19: the strip loop leaves an odd value, and the even `n - 1` gives it at least one factor of two to strip. -/
theorem stripFnOddPart : Obligations.StripFnOddPart := by
  intro n hn
  obtain ⟨hodd, s, hs, heq⟩ := stripFn_odd_part hn
  exact ⟨s, hn.cofactor_pos hodd heq, Nat.le_of_lt_succ hs, hodd, by omega, heq⟩

/-! ### The witness (R151) -/

/-- Settles O20: the witness is the remainder of the two outputs put together. -/
theorem witnessAssembly : Obligations.WitnessAssembly := by
  intro o1 o2 n hn
  have hval : (witnessFn o1 o2 n).toNat = (o2.toNat * 2 ^ 32 + o1.toNat) % n.toNat := by
    rw [witnessFn, modFn_toNat, concatHalves_toNat]
  exact ⟨hval, hval ▸ Nat.mod_lt _ hn⟩

/-! ### One round in closed form (R152, R162) -/

/-- Doubling the counter loses no bit before it has reached `n - 1` (R158). -/
theorem pred_eq_double_mul {n t : Word} {i : Nat} (ht : n.toNat - 1 = t.toNat * 2 ^ (i + 1)) :
    n.toNat - 1 = (t <<< 1).toNat * 2 ^ i := by
  have hn64 := n.isLt
  have ht' : n.toNat - 1 = t.toNat * 2 * 2 ^ i := by rw [ht, pow_succ', mul_assoc]
  have hle : t.toNat * 2 ≤ n.toNat - 1 := ht' ▸ Nat.le_mul_of_pos_right _ (Nat.two_pow_pos i)
  rw [BitVec.toNat_shiftLeft, Nat.shiftLeft_eq, pow_one, Nat.mod_eq_of_lt (by omega), ht']

/-- The doubled counter is `n - 1` when no squaring is left. -/
theorem double_eq_pred_iff {n t : Word} {i : Nat} (hn : LegalCandidate n)
    (ht : n.toNat - 1 = t.toNat * 2 ^ (i + 1)) : t <<< 1 = n - 1#64 ↔ i = 0 := by
  have hpos := hn.pred_pos
  rw [← BitVec.toNat_inj, hn.toNat_pred]
  rw [pred_eq_double_mul ht] at hpos ⊢
  rw [left_eq_mul₀ (Nat.pos_of_mul_pos_right hpos).ne', Nat.pow_eq_one]
  simp

/-- Squaring once first makes `x^(2^(j+1))` a power of the square. -/
theorem pow_two_pow_succ_mod {n : Word} (hn : LegalCandidate n) (x : Word) (j : Nat) :
    x.toNat ^ 2 ^ (j + 1) % n.toNat = (mulModFn x x n).toNat ^ 2 ^ j % n.toNat := by
  rw [mulModFn_toNat x x n (Nat.zero_lt_of_lt hn.1), ← Nat.pow_mod, ← pow_two, ← pow_mul, ← pow_succ']

/-- Some of the next `i + 1` squares is `n - 1` when the first is, or some of the `i` squares from it on. -/
theorem exists_square_eq_pred_succ {n : Word} (hn : LegalCandidate n) (x : Word) (i : Nat) :
    (∃ j < i + 1, x.toNat ^ 2 ^ (j + 1) % n.toNat = n.toNat - 1)
      ↔ mulModFn x x n = n - 1#64
        ∨ ∃ j < i, (mulModFn x x n).toNat ^ 2 ^ (j + 1) % n.toNat = n.toNat - 1 := by
  have hlt := mulModFn_lt x x (Nat.zero_lt_of_lt hn.1)
  simp only [pow_two_pow_succ_mod hn x, Nat.exists_lt_succ_left, pow_zero, pow_one, Nat.mod_eq_of_lt hlt,
    ← BitVec.toNat_inj, hn.toNat_pred]

/-- The squaring loop with `i` squarings left before the counter reaches `n - 1`: it passes exactly when one of them gives
`n - 1`. It leaves at a square of 1, and rightly: every later square is 1. -/
theorem roundLoop_eq {n : Word} (hn : LegalCandidate n) {i fuel : Nat} (hfuel : i < fuel) {t x : Word}
    (ht : n.toNat - 1 = t.toNat * 2 ^ (i + 1)) :
    roundLoop n fuel t x
      = if ∃ j < i, x.toNat ^ 2 ^ (j + 1) % n.toNat = n.toNat - 1 then .passed else .composite := by
  have hgt := hn.1
  induction fuel generalizing i t x with
  | zero => exact absurd hfuel i.not_lt_zero
  | succ fuel ih =>
    rw [roundLoop]
    cases i with
    | zero => rw [if_pos ((double_eq_pred_iff hn ht).2 rfl), if_neg (by simp)]
    | succ i =>
      rw [if_neg (mt (double_eq_pred_iff hn ht).1 i.succ_ne_zero)]
      simp only [exists_square_eq_pred_succ hn]
      split
      next hpass => rw [if_pos (.inl hpass)]
      next hpass =>
        split
        next hone =>
          have hnone : ¬ ∃ j < i, (mulModFn x x n).toNat ^ 2 ^ (j + 1) % n.toNat = n.toNat - 1 := by
            rintro ⟨j, -, hj⟩
            rw [hone, BitVec.toNat_one (by decide), one_pow, Nat.mod_eq_of_lt (by omega)] at hj
            omega
          rw [if_neg (not_or_intro hpass hnone)]
        next =>
          simp only [hpass, false_or]
          exact ih (Nat.lt_of_succ_lt_succ hfuel) (pred_eq_double_mul ht)

/-- A legal candidate has fewer than 64 factors of two in `n - 1` (R158). -/
theorem LegalCandidate.exponent_lt {n : Word} (hn : LegalCandidate n) {d s : Nat} (hd : n.toNat - 1 = d * 2 ^ s) :
    s < 64 := by
  have hle : 2 ^ s ≤ n.toNat - 1 := Nat.le_of_dvd hn.pred_pos (Dvd.intro_left d hd.symm)
  exact (Nat.pow_lt_pow_iff_right Nat.one_lt_two).1 (by omega)

/-- For a non-zero exponent `ExpModFn` is the power, that of base 0 among them. -/
theorem LegalCandidate.expModFn_toNat {n d : Word} (hn : LegalCandidate n) (hd : 0 < d.toNat) (a : Word) :
    (expModFn a d n).toNat = a.toNat ^ d.toNat % n.toNat := by
  obtain ⟨hgt, -⟩ := hn
  rw [Machine.expModFn_toNat]
  split
  next h0 => rw [h0.resolve_right (by omega), zero_pow hd.ne', Nat.zero_mod]
  next => rw [if_neg hd.ne']

/-- `RoundFn` decides the strong-probable-prime condition of R162, of any witness: that of 0 does not meet it. -/
theorem roundFn_eq {n d : Word} (hn : LegalCandidate n) {s : Nat} (hs : 0 < s) (hd : n.toNat - 1 = d.toNat * 2 ^ s)
    (a : Word) :
    roundFn n d a
      = if a.toNat ^ d.toNat % n.toNat = 1 ∨ ∃ j < s, a.toNat ^ (d.toNat * 2 ^ j) % n.toNat = n.toNat - 1 then .passed
        else .composite := by
  obtain _ | i := s
  · exact absurd hs (Nat.lt_irrefl 0)
  have hpos : 0 < d.toNat * 2 ^ (i + 1) := hd ▸ hn.pred_pos
  have hx := hn.expModFn_toNat (Nat.pos_of_mul_pos_right hpos) a
  have hlt : (expModFn a d n).toNat < n.toNat := hx ▸ Nat.mod_lt _ (Nat.zero_lt_of_lt hn.1)
  have hpowers (j : Nat) : a.toNat ^ (d.toNat * 2 ^ j) % n.toNat = (expModFn a d n).toNat ^ 2 ^ j % n.toNat := by
    rw [hx, pow_mul, ← Nat.pow_mod]
  have hone : expModFn a d n = 1#64 ↔ (expModFn a d n).toNat = 1 := BitVec.toNat_inj.symm
  have hpred : expModFn a d n = n - 1#64 ↔ (expModFn a d n).toNat = n.toNat - 1 := by
    rw [← BitVec.toNat_inj, hn.toNat_pred]
  rw [roundFn, roundLoop_eq hn (Nat.lt_of_succ_lt (hn.exponent_lt hd)) hd]
  simp only [hone, hpred, hpowers, Nat.exists_lt_succ_left, pow_zero, pow_one, Nat.mod_eq_of_lt hlt, ← hx, ← or_assoc]
  simp only [ite_or]

/-- Settles O22: a round is the condition of R162, which no power of 0 meets. -/
theorem roundClosedForm : Obligations.RoundClosedForm := by
  intro n a s hn heq
  obtain ⟨hodd, -⟩ := stripFn_odd_part hn
  have hround := roundFn_eq hn (hn.cofactor_pos hodd heq) heq a
  refine ⟨fun _ _ => ?_, ?_⟩
  · rw [hround]
    split
    next h => exact ⟨iff_of_true rfl h, fun h' => absurd rfl h'⟩
    next h => exact ⟨iff_of_false (by decide) h, fun _ => rfl⟩
  · rintro rfl
    have hzero {e : Nat} (he : 0 < e) : (0#64).toNat ^ e % n.toNat = 0 := by
      rw [BitVec.toNat_zero, zero_pow he.ne', Nat.zero_mod]
    obtain ⟨hgt, -⟩ := hn
    rw [hround, if_neg]
    rintro (h | ⟨j, -, h⟩)
    · rw [hzero (by omega)] at h
      omega
    · rw [hzero (Nat.mul_pos (by omega) (Nat.two_pow_pos j))] at h
      omega

/-- A round never leaves the candidate undecided. -/
theorem roundFn_stripFn_decides {n : Word} (hn : LegalCandidate n) (a : Word) :
    roundFn n (stripFn n) a = .passed ∨ roundFn n (stripFn n) a = .composite := by
  obtain ⟨hodd, s, -, heq⟩ := stripFn_odd_part hn
  rw [roundFn_eq hn (hn.cofactor_pos hodd heq) heq]
  exact ite_eq_or_eq _ _ _

/-! ### The rounds of the whole test (R153, R156) -/

theorem isPrpLoop_of_composite {g : GenConsts} {n d x y : Word} (k : Nat)
    (h : roundFn n d (witnessAt g n 0 x y) = .composite) :
    isPrpLoop g n d (k + 1) x y = ⟨false, (lanesAfter g 2 x y).1, (lanesAfter g 2 x y).2⟩ :=
  if_pos h

theorem isPrpLoop_of_not_composite {g : GenConsts} {n d x y : Word} (k : Nat)
    (h : roundFn n d (witnessAt g n 0 x y) ≠ .composite) :
    isPrpLoop g n d (k + 1) x y = isPrpLoop g n d k (lanesAfter g 2 x y).1 (lanesAfter g 2 x y).2 :=
  if_neg h

/-- With no COMPOSITE round all `k` are run. -/
theorem isPrpLoop_of_none_composite {g : GenConsts} {n d : Word} (k : Nat) {x y : Word}
    (h : ∀ j < k, roundFn n d (witnessAt g n j x y) ≠ .composite) :
    isPrpLoop g n d k x y = ⟨true, (lanesAfter g (2 * k) x y).1, (lanesAfter g (2 * k) x y).2⟩ := by
  induction k generalizing x y with
  | zero => rfl
  | succ k ih =>
    rw [isPrpLoop_of_not_composite k (h 0 k.succ_pos)]
    exact ih fun j hj => h (j + 1) (Nat.succ_lt_succ hj)

/-- The first COMPOSITE round, counted from 0, is the last one run. -/
theorem isPrpLoop_of_first_composite {g : GenConsts} {n d : Word} {r k : Nat} (hr : r < k) {x y : Word}
    (hcomposite : roundFn n d (witnessAt g n r x y) = .composite)
    (hbefore : ∀ j < r, roundFn n d (witnessAt g n j x y) ≠ .composite) :
    isPrpLoop g n d k x y = ⟨false, (lanesAfter g (2 * (r + 1)) x y).1, (lanesAfter g (2 * (r + 1)) x y).2⟩ := by
  induction k generalizing r x y with
  | zero => exact absurd hr r.not_lt_zero
  | succ k ih =>
    cases r with
    | zero => exact isPrpLoop_of_composite k hcomposite
    | succ r =>
      rw [isPrpLoop_of_not_composite k (hbefore 0 r.succ_pos)]
      exact ih (Nat.lt_of_succ_lt_succ hr) hcomposite fun j hj => hbefore (j + 1) (Nat.succ_lt_succ hj)

/-! ### The command (R154, R157) -/

/-- The end of ISPRP with a verdict: the lanes written, the verdict responded. -/
def State.endVerdict (v : Verdict) (s : State) : State :=
  (s.withLanes v.x v.y).endCommand .none (verdictWord v.prime)

theorem isprpWith_of_not_legal {n : Word} (g : GenConsts) (k : Half) (s : State) (h : ¬ LegalCandidate n) :
    isprpWith g n k s = raiseFault .badCandidate s :=
  if_pos ((badCandidate_iff n).2 h)

theorem LegalCandidate.not_badCandidate {n : Word} (hn : LegalCandidate n) : ¬ badCandidate n = true := fun h =>
  (badCandidate_iff n).1 h hn

theorem isprpWith_of_unseeded {n : Word} {k : Half} {s : State} (g : GenConsts) (hn : LegalCandidate n)
    (hk : k ≠ 0#32) (hs : s.seeded = false) : isprpWith g n k s = raiseFault .unseeded s := by
  rw [isprpWith, if_neg hn.not_badCandidate, if_pos ⟨hk, hs⟩]

theorem isprpWith_of_legal {n : Word} {k : Half} {s : State} (g : GenConsts) (hn : LegalCandidate n)
    (h : k = 0#32 ∨ s.seeded = true) : isprpWith g n k s = .next (s.endVerdict (isPrpFn g n k s.x s.y)) := by
  have hguard : ¬ (k ≠ 0#32 ∧ s.seeded = false) := by
    rintro ⟨hk, hs⟩
    exact h.elim hk fun hs' => Bool.noConfusion (hs.symm.trans hs')
  rw [isprpWith, if_neg hn.not_badCandidate, if_neg hguard]
  rfl

/-- A legal ISPRP ends as the verdict's response on the verdict's lanes. -/
theorem exec_isprp_endsAs {n : Word} {k : Half} {s : State} (hn : LegalCandidate n) (h : k = 0#32 ∨ s.seeded = true)
    {p : Bool} {x y : Word} (hv : isPrpFn consts n k s.x s.y = ⟨p, x, y⟩) :
    endsAs (exec (.isprp n k) s) (({ s with x := x, y := y } : State).answered (verdictWord p)) :=
  ⟨_, isprpWith_of_legal consts hn h, hv ▸ endCommand_none_agrees _ (s.withLanes _ _)⟩

theorem exec_isprp_of_not_legal {n : Word} (k : Half) (s : State) (hn : ¬ LegalCandidate n) :
    endsAs (exec (.isprp n k) s) (s.faultedWith 3#4) := by
  rw [exec, execIsprp, isprpWith_of_not_legal consts k s hn]
  exact raiseFault_endsAs .badCandidate s

/-- Settles O24: no round is run, so the verdict is 1 on the lanes as they are; the candidate is tested before anything else. -/
theorem isprpZeroRounds : Obligations.IsprpZeroRounds :=
  ⟨fun _ s hn => exec_isprp_endsAs (s := s) hn (.inl rfl) rfl, fun _ => exec_isprp_of_not_legal 0#32⟩

/-- Settles O25: either no round is COMPOSITE and all are run, or the first COMPOSITE one is the last run. -/
theorem isprpRoundsAndDraws : Obligations.IsprpRoundsAndDraws := by
  refine ⟨fun n k s hn hk => ?_, fun n k s hn => exec_isprp_of_not_legal k s hn, fun n k s hn hk hs => ?_,
    fun _ _ _ => rfl, by decide +kernel⟩
  · have hpassed {j : Nat} (h : roundFn n (stripFn n) (witnessAt consts n j s.x s.y) ≠ .composite) :
        roundFn n (stripFn n) (witnessAt consts n j s.x s.y) = .passed :=
      (roundFn_stripFn_decides hn _).resolve_right h
    by_cases h : ∃ j < k.toNat, roundFn n (stripFn n) (witnessAt consts n j s.x s.y) = .composite
    · obtain ⟨hr, hcomposite⟩ := Nat.find_spec h
      have hbefore : ∀ j < Nat.find h, roundFn n (stripFn n) (witnessAt consts n j s.x s.y) ≠ .composite :=
        fun j hj hc => Nat.find_min h hj ⟨hj.trans hr, hc⟩
      exact ⟨Nat.find h + 1, 0#64, hr,
        exec_isprp_endsAs hn hk (isPrpLoop_of_first_composite hr hcomposite hbefore),
        .inr ⟨rfl, Nat.succ_pos _, hcomposite, fun j hj => hpassed (hbefore j hj)⟩⟩
    · push Not at h
      exact ⟨k.toNat, 1#64, le_rfl, exec_isprp_endsAs hn hk (isPrpLoop_of_none_composite _ h),
        .inl ⟨rfl, rfl, fun j hj => hpassed (h j hj)⟩⟩
  · rw [exec, execIsprp, isprpWith_of_unseeded consts hn hk hs]
    exact raiseFault_endsAs .unseeded s

end Sys2Proof.Machine

namespace Sys2Proof.Machine

/-! ### The micro-steps of ISPRP (spec 43_rabin_miller.md R155) -/

/-- Finitely many micro-steps lead from `m` to `m'`. -/
def Reaches (g : GenConsts) (m m' : MicroState) : Prop := ∃ n, microRun g n m = m'

theorem Reaches.refl (g : GenConsts) (m : MicroState) : Reaches g m m := ⟨0, rfl⟩

theorem Reaches.head {g : GenConsts} {m m' m'' : MicroState} (h : microStep g m = m') (h' : Reaches g m' m'') :
    Reaches g m m'' := by
  obtain ⟨n, hn⟩ := h'
  exact ⟨n + 1, by rw [microRun, h, hn]⟩

theorem Reaches.trans {g : GenConsts} {m m' m'' : MicroState} (h : Reaches g m m') (h' : Reaches g m' m'') :
    Reaches g m m'' := by
  obtain ⟨n, rfl⟩ := h
  induction n generalizing m with
  | zero => exact h'
  | succ n ih => exact .head rfl (ih h')

/-- P3 is the strip loop, on a value its limit is enough for. -/
theorem reaches_p4_of_p3 (g : GenConsts) (fuel : Nat) {s : State} (h : isOdd (stripLoop fuel s.work.d) = true) :
    Reaches g ⟨.p3, s⟩ ⟨.p4, s.withWork { s.work with d := stripLoop fuel s.work.d }⟩ := by
  induction fuel generalizing s with
  | zero => exact .head (if_pos h) (.refl g _)
  | succ fuel ih =>
    rw [stripLoop] at h ⊢
    split
    next hodd => exact .head (if_pos hodd) (.refl g _)
    next heven =>
      rw [if_neg heven] at h
      exact .head (if_neg heven) (ih (s := s.withWork { s.work with d := s.work.d >>> 1 }) h)

/-- The registers after P14: the counter doubled, the value squared. -/
def State.afterRoundSquare (s : State) : State :=
  s.withWork { s.work with t := s.work.t <<< 1, xr := mulModFn s.work.xr s.work.xr s.ra }

/-- The registers with the round's result in `RS`. -/
def State.withRound (r : RoundState) (s : State) : State := s.withWork { s.work with rs := r }

/-- A decided round leaves the loop at P11. -/
theorem reaches_p17_of_withRound (g : GenConsts) {r : RoundState} (hr : r ≠ .searching) (s : State) :
    Reaches g ⟨.p11, s.withRound r⟩ ⟨.p17, s.withRound r⟩ :=
  .head (if_neg hr) (.refl g _)

/-- P11 to P13 with the counter doubled to `n - 1`: the round is COMPOSITE. -/
theorem reaches_p11_of_last_double (g : GenConsts) {s : State} (hrs : s.work.rs = .searching)
    (h : s.work.t <<< 1 = s.work.n1) :
    Reaches g ⟨.p11, s⟩ ⟨.p11, (s.withWork { s.work with t := s.work.t <<< 1 }).withRound .composite⟩ :=
  .head (if_pos hrs) (.head rfl (.head (if_pos h) (.refl g _)))

/-- P11 to P14 with a squaring left. -/
theorem reaches_p15_of_double (g : GenConsts) {s : State} (hrs : s.work.rs = .searching)
    (h : s.work.t <<< 1 ≠ s.work.n1) : Reaches g ⟨.p11, s⟩ ⟨.p15, s.afterRoundSquare⟩ :=
  .head (if_pos hrs) (.head rfl (.head (if_neg h) (.head rfl (.refl g _))))

/-- P11 to P16 are the squaring loop, when its limit is enough. -/
theorem reaches_p17_of_p11 (g : GenConsts) (fuel : Nat) {s : State} {r : RoundState} (hn1 : s.work.n1 = s.ra - 1#64)
    (hrs : s.work.rs = .searching) (hr : roundLoop s.ra fuel s.work.t s.work.xr = r) (hne : r ≠ .searching) :
    ∃ xr t, Reaches g ⟨.p11, s⟩ ⟨.p17, (s.withWork { s.work with xr := xr, t := t }).withRound r⟩ := by
  induction fuel generalizing s with
  | zero => exact absurd hr.symm hne
  | succ fuel ih =>
    have hexit := reaches_p17_of_withRound g hne
    rw [roundLoop, ← hn1] at hr
    split at hr
    next hlast =>
      subst hr
      exact ⟨s.work.xr, s.work.t <<< 1, (reaches_p11_of_last_double g hrs hlast).trans (hexit _)⟩
    next hmore =>
      have hp15 := reaches_p15_of_double g hrs hmore
      split at hr
      next hpass =>
        subst hr
        exact ⟨_, _, hp15.trans (.head (if_pos hpass) (hexit s.afterRoundSquare))⟩
      next hpass =>
        split at hr
        next hone =>
          subst hr
          exact ⟨_, _, hp15.trans (.head (if_neg hpass) (.head (if_pos hone) (hexit s.afterRoundSquare)))⟩
        next hone =>
          obtain ⟨xr, t, h⟩ := ih (s := s.afterRoundSquare) hn1 hrs hr
          exact ⟨xr, t, hp15.trans (.head (if_neg hpass) (.head (if_neg hone) h))⟩

/-- P9 to P16 evaluate the witness in `W`. -/
theorem reaches_p17_of_p9 (g : GenConsts) {s : State} {r : RoundState} (hn1 : s.work.n1 = s.ra - 1#64)
    (hr : roundFn s.ra s.work.d s.work.w = r) (hne : r ≠ .searching) :
    ∃ xr t, Reaches g ⟨.p9, s⟩ ⟨.p17, (s.withWork { s.work with xr := xr, t := t }).withRound r⟩ := by
  rw [roundFn, ← hn1] at hr
  split at hr
  next hpass =>
    subst hr
    exact ⟨expModFn s.work.w s.work.d s.ra, s.work.t,
      .head rfl (.head (if_pos hpass) (reaches_p17_of_withRound g hne _))⟩
  next hsearch =>
    obtain ⟨xr, t, h⟩ := reaches_p17_of_p11 g 64
      (s := s.withWork { s.work with xr := expModFn s.work.w s.work.d s.ra, rs := .searching, t := s.work.d })
      hn1 rfl hr hne
    exact ⟨xr, t, .head rfl (.head (if_neg hsearch) h)⟩

/-- The working registers after P8 with the witness `w`: one more round counted. -/
def Work.afterWitness (w : Word) (wk : Work) : Work := { wk with kcnt := wk.kcnt - 1#32, w := w }

/-- P4 to P8 with a round left to run: its two draws move the lanes. -/
theorem reaches_p9_of_p4 (g : GenConsts) {s : State} {wk : Work} (h : wk.kcnt ≠ 0#32) :
    Reaches g ⟨.p4, s.withWork wk⟩
      ⟨.p9, (s.withLanes (drawWitness g s.ra s.x s.y).x (drawWitness g s.ra s.x s.y).y).withWork
        (wk.afterWitness (drawWitness g s.ra s.x s.y).witness)⟩ :=
  .head (if_neg h) (.head rfl (.head rfl (.head rfl (.head rfl (.refl g _)))))

/-- From P4 the rounds still in `KCNT` are run; the end forgets the working registers, so it is the same whatever they hold. -/
theorem reaches_done_of_p4 (g : GenConsts) (k : Nat) {s : State} {wk : Work} (hn1 : wk.n1 = s.ra - 1#64)
    (hne : ∀ a, roundFn s.ra wk.d a ≠ .searching) (hk : wk.kcnt.toNat = k) :
    Reaches g ⟨.p4, s.withWork wk⟩ ⟨.done, s.endVerdict (isPrpLoop g s.ra wk.d k s.x s.y)⟩ := by
  induction k generalizing s wk with
  | zero => exact .head (if_pos (BitVec.eq_of_toNat_eq hk)) (.refl g _)
  | succ k ih =>
    have hpos : wk.kcnt ≠ 0#32 := fun h0 => by simp [h0] at hk
    have hnext : (wk.kcnt - 1#32).toNat = k := by bv_omega
    have hp9 := reaches_p9_of_p4 g (s := s) hpos
    rw [isPrpLoop]
    generalize drawWitness g s.ra s.x s.y = r at hp9 ⊢
    obtain ⟨xr, t, hround⟩ := reaches_p17_of_p9 g
      (s := (s.withLanes r.x r.y).withWork (wk.afterWitness r.witness)) hn1 rfl (hne r.witness)
    have hp17 := hp9.trans hround
    split
    next hcomposite => exact hp17.trans (.head (if_pos hcomposite) (.refl g _))
    next hpassed =>
      have hp4 := hp17.trans (.head (if_neg hpassed) (.head rfl (.refl g _)))
      exact hp4.trans (ih (s := s.withLanes r.x r.y) hn1 hne hnext)

/-- The working registers at P3: the rounds counted, `n - 1` in `N1` and `D`. -/
def State.workBeforeStrip (s : State) : Work :=
  { s.work with kcnt := low32 s.rb, n1 := s.ra - 1#64, d := s.ra - 1#64 }

/-- The micro-steps take each of the three ways of R154 to the end. -/
theorem reaches_done_of_p0 (g : GenConsts) (s : State) :
    ∃ t, isprpWith g s.ra (low32 s.rb) s = .next t ∧ Reaches g ⟨.p0, s⟩ ⟨.done, t⟩ := by
  by_cases hn : LegalCandidate s.ra
  · have hp0 : microStep g ⟨.p0, s⟩ = ⟨.p1, s⟩ := if_neg hn.not_badCandidate
    by_cases hguard : low32 s.rb ≠ 0#32 ∧ s.seeded = false
    · exact ⟨_, isprpWith_of_unseeded g hn hguard.1 hguard.2, .head hp0 (.head (if_pos hguard) (.refl g _))⟩
    · have hk : low32 s.rb = 0#32 ∨ s.seeded = true := by
        rwa [not_and_or, not_not, Bool.not_eq_false] at hguard
      obtain ⟨hodd, -⟩ := stripFn_odd_part hn
      have hp3 : Reaches g ⟨.p0, s⟩ ⟨.p3, s.withWork s.workBeforeStrip⟩ :=
        .head hp0 (.head (if_neg hguard) (.head rfl (.refl g _)))
      have hp4 : Reaches g ⟨.p3, s.withWork s.workBeforeStrip⟩
          ⟨.p4, s.withWork { s.workBeforeStrip with d := stripFn s.ra }⟩ :=
        reaches_p4_of_p3 g 64 ((isOdd_iff _).2 hodd)
      have hne (a : Word) : roundFn s.ra (stripFn s.ra) a ≠ .searching := by
        obtain h | h := roundFn_stripFn_decides hn a <;> rw [h] <;> decide
      have hdone := reaches_done_of_p4 g (low32 s.rb).toNat (s := s)
        (wk := { s.workBeforeStrip with d := stripFn s.ra }) rfl hne rfl
      exact ⟨_, isprpWith_of_legal g hn hk, hp3.trans (hp4.trans hdone)⟩
  · exact ⟨_, isprpWith_of_not_legal g _ s hn, .head (if_pos ((badCandidate_iff _).2 hn)) (.refl g _)⟩

/-- Settles O50: the micro-steps end in the very state of the command's meaning, which forgets the working registers too. -/
theorem isprpMicroRefines : Obligations.IsprpMicroRefines := fun s =>
  have ⟨t, ht, n, hn⟩ := reaches_done_of_p0 consts s
  ⟨n, t, hn, t, ht, State.agrees_rfl t⟩

end Sys2Proof.Machine

namespace Sys2Proof.Machine

/-! ### The contract decides between the two ends of a command (spec 60_exceptions.md R173 to R176, R187) -/

/-- Within its contract a command responds, having written at most the lanes and `SEEDED`. -/
theorem exec_eq_respond_of_contract {i : Instr} {s : State} (h : Contract i s) :
    ∃ x y seeded v, exec i s = respond v { s with x := x, y := y, seeded := seeded } := by
  cases i with
  | seed1 | seed2 | expmod => exact ⟨_, _, _, _, rfl⟩
  | next => exact ⟨_, _, _, _, nextWith_of_seeded consts h⟩
  | mulmod a b m => exact ⟨_, _, _, _, execMulmod_of_gt_one a b s h⟩
  | isprp n k =>
    obtain ⟨hn, hk⟩ := h
    exact ⟨_, _, _, _, isprpWith_of_legal consts hn hk⟩

/-- Outside its contract a command raises its row's cause, and the untouched state takes the fault. -/
theorem exec_eq_raiseFault_of_not_contract {i : Instr} {s : State} (h : ¬ Contract i s) :
    ∃ c, c.code ≠ 0#4 ∧ causeOutsideContract i = c.code ∧ exec i s = raiseFault c s := by
  cases i with
  | seed1 | seed2 | expmod => exact absurd trivial h
  | next => exact ⟨.unseeded, by decide, rfl, nextWith_of_unseeded consts (eq_false_of_ne_true h)⟩
  | mulmod a b m => exact ⟨.badModulus, by decide, rfl, execMulmod_of_le_one a b s (Nat.le_of_not_lt h)⟩
  | isprp n k =>
    by_cases hn : LegalCandidate n
    · have hunseeded : ¬ (k = 0#32 ∨ s.seeded = true) := fun hk => h ⟨hn, hk⟩
      rw [not_or, Bool.not_eq_true] at hunseeded
      obtain ⟨hk, hs⟩ := hunseeded
      exact ⟨.unseeded, by decide, if_pos hn, isprpWith_of_unseeded consts hn hk hs⟩
    · exact ⟨.badCandidate, by decide, if_neg hn, isprpWith_of_not_legal consts k s hn⟩

/-- Settles O27: within its contract a command responds with cause 0; outside it the row's cause is raised in the state as it
was. -/
theorem faultCausesAsTabled : Obligations.FaultCausesAsTabled := by
  refine fun i s => ⟨fun h => ?_, fun h => ?_⟩
  · obtain ⟨x, y, seeded, v, hexec⟩ := exec_eq_respond_of_contract h
    exact ⟨_, hexec, rfl, rfl, rfl⟩
  · obtain ⟨c, hne, hcause, hexec⟩ := exec_eq_raiseFault_of_not_contract h
    rw [hexec, hcause]
    exact ⟨hne, raiseFault_endsAs c s⟩

/-- A faulted command leaves the generator state as it is (R176). -/
theorem sameGenerator_of_not_contract {i : Instr} {s t : State} (h : ¬ Contract i s) (ht : exec i s = .next t) :
    t.sameGenerator s := by
  obtain ⟨c, -, -, hexec⟩ := exec_eq_raiseFault_of_not_contract h
  cases hexec.symm.trans ht
  exact ⟨rfl, rfl, rfl⟩

/-- Settles O29: responses depend on the generator state alone, of which neither `FLT` nor anything a fault writes is part. -/
theorem faultsLeaveNoTrace : Obligations.FaultsLeaveNoTrace :=
  ⟨fun p _ _ => responses_congr p ⟨rfl, rfl, rfl⟩,
    fun p _ _ t h ht => ⟨responses_congr p (sameGenerator_of_not_contract h ht), t.takeResponse_ph⟩⟩

end Sys2Proof.Machine

namespace Sys2Proof.Machine

/-! ### The handshake ports as functions of the phase (spec 20_memory.md R50, R51) -/

theorem State.cmdReady_iff (s : State) : s.cmdReady = true ↔ s.ph = .idle := decide_eq_true_iff

theorem State.rspValid_iff (s : State) : s.rspValid = true ↔ s.ph = .resp := decide_eq_true_iff

theorem State.rspValid_of_idle {s : State} (h : s.ph = .idle) : s.rspValid = false := by
  have hresp : s.ph ≠ .resp := by simp [h]
  exact Bool.eq_false_iff.mpr fun hv => hresp (s.rspValid_iff.mp hv)

/-! ### The values after reset (spec 70_reset_and_hazards.md R201) -/

theorem State.reset_ph : State.reset.ph = .idle := rfl

/-- Settles O38: the three registers have their values by definition, and the ports follow from the phase. -/
theorem resetValues : Obligations.ResetValues :=
  ⟨State.reset_ph, rfl, rfl, State.reset.cmdReady_iff.mpr State.reset_ph, State.rspValid_of_idle State.reset_ph⟩

end Sys2Proof.Machine

namespace Sys2Proof.Machine

/-! ### The causes and the ends of a command (spec 30_encoding.md R73, 60_exceptions.md R176) -/

theorem Cause.code_toNat_le (c : Cause) : c.code.toNat ≤ 4 := by
  cases c <;> decide

theorem Cause.code_eq_zero_iff (c : Cause) : c.code = 0#4 ↔ c = .none := by
  cases c <;> decide

/-- The invariant speaks of a waiting response alone. -/
theorem State.inv_of_ph_ne_resp {s : State} (h : s.ph ≠ .resp) : s.Inv := fun hp => absurd hp h

/-- The invariant holds at every end of a command, whatever held before. -/
theorem EndOf.inv {s t : State} (h : EndOf s t) : t.Inv := by
  intro _
  cases h with
  | normal => simp [Cause.code]
  | fault c => exact ⟨by simpa using c.code_toNat_le, by simp⟩

/-- An end of a command keeps `FLT` clear exactly when its cause is 0 (R26, R176). -/
theorem EndOf.flt_eq_false_iff {s t : State} (h : EndOf s t) : t.flt = false ↔ s.flt = false ∧ t.rcause = 0#4 := by
  cases h with
  | normal => simp [Cause.code]
  | fault c hc => simp [c.code_eq_zero_iff, hc]

/-- Settles O43: every end of a command meets the invariant; of the other transitions only a held response stays in RESP, and
it keeps latch and flag. -/
theorem responseInvariantKept : Obligations.ResponseInvariantKept := by
  intro s t hinv hstep
  cases step_of hstep with
  | finish _ _ _ _ he => exact (endOf_of_endLatched he).inv
  | hold => exact hinv
  | reset | accept | take => exact State.inv_of_ph_ne_resp (by simp)
  | idle _ hp | wait _ hp => exact State.inv_of_ph_ne_resp (by simp [hp])

/-- Settles O44: reset leaves no response waiting. -/
theorem responseInvariantAtReset : Obligations.ResponseInvariantAtReset :=
  ⟨State.inv_of_ph_ne_resp (by decide), fun _ => State.inv_of_ph_ne_resp (s := { State.reset with inputs := _ }) nofun⟩

/-! ### Every edge has a next state (spec 30_encoding.md R83, 60_exceptions.md R170) -/

theorem step_eq_busyWait {s : State} {n : Nat} (hr : s.nextInput.rst = false) (hp : s.ph = .busy)
    (hb : s.busyLeft = n + 1) : step s = .next (s.clocked.busyWait n) := by
  rw [step, edge_eq_busyEdge hr (s.clocked_ph.trans hp), busyEdge, s.clocked_busyLeft, hb]

theorem exists_edge_eq_next (inp : EdgeInput) (s : State) : ∃ t, edge inp s = .next t := by
  cases hr : inp.rst with
  | true => exact ⟨_, edge_eq_resetEdge hr s⟩
  | false =>
    cases hp : s.ph with
    | idle => exact ⟨_, edge_eq_idleEdge hr hp⟩
    | resp => exact ⟨_, edge_eq_respEdge hr hp⟩
    | busy =>
      rw [edge_eq_busyEdge hr hp, busyEdge]
      split
      · obtain ⟨t, ht, -⟩ := endLatched_end s
        exact ⟨t, ht⟩
      · exact ⟨_, rfl⟩

/-- Settles O39: each phase's edge answers a next state, and every command has an end. -/
theorem stepNeverStops : Obligations.StepNeverStops := by
  refine ⟨fun s => exists_edge_eq_next _ _, fun i s => ?_⟩
  obtain ⟨t, ht, hend⟩ := exec_end i s
  exact ⟨t, ht, hend.ph_eq_resp⟩

/-- Settles O34: the seven transitions of a step, each with its condition. -/
theorem phaseMoves : Obligations.PhaseMoves := by
  intro s t hrst hstep
  cases step_of hstep with
  | reset hr => simp [hrst] at hr
  | accept _ hp hv | idle _ hp hv => simp [hp, hv]
  | wait _ hp n hb => simp [hp, hb]
  | finish _ hp hb _ he => simp [hp, hb, (endOf_of_endLatched he).ph_eq_resp]
  | take _ hp hv | hold _ hp hv => simp [hp, hv]

/-! ### The command in the latch (spec 10_state.md R25, R27) -/

/-- The latch holds a command exactly as the word packed from its fields does. -/
theorem decode_packWord (op : Nibble) (c b a : Word) : decode (packWord op c b a) = decodeFields op a b c := by
  rw [decode, Laws.Encoding.opField_packWord, cField_packWord, bField_packWord, aField_packWord]

theorem State.opcode_of_latched {s : State} {i : Instr} (h : s.latched = .ok i) : i.opcode = s.op := by
  rw [State.latched, ← decode_packWord, decode_eq_ok_iff_carries] at h
  rw [h.opcode_eq, Laws.Encoding.opField_packWord]

/-- A command's end is either that of the latched command or the ILLEGAL_OP fault of a reserved opcode (R55, R77). -/
theorem endLatched_cases {s t : State} (h : endLatched s = .next t) :
    (∃ i, i.opcode = s.op ∧ exec i s = .next t)
      ∨ ((s.op.toNat = 0 ∨ 7 ≤ s.op.toNat) ∧ t = s.setFlt.endCommand .illegalOp 0#64) := by
  obtain ⟨i, hi⟩ | herr := decodeFields_ok_or_illegalOp s.op s.ra s.rb s.rc
  · exact .inl ⟨i, State.opcode_of_latched hi, (endLatched_of_ok hi).symm.trans h⟩
  · refine .inr ⟨(decodeFields_eq_illegalOp_iff _ _ _ _).1 herr, ?_⟩
    rw [endLatched_of_error herr] at h
    cases h
    rfl

/-- Settles O31: the edge runs whatever command the latch holds, and the placed word is latched. -/
theorem stepRunsLatchedCommand : Obligations.StepRunsLatchedCommand := by
  refine ⟨fun s i hr hp hb hl => ?_, fun s nbits w i hw => ?_⟩
  · rw [step_eq_endLatched hr hp hb]
    exact endLatched_of_ok hl
  · rw [decodeTableWord] at hw
    split at hw
    next j hj => cases hw; exact step_loadCommand hj s
    next => cases hw

/-! ### Who writes the lanes and the flags (spec 10_state.md section 2) -/

/-- The commands that touch generator state are the other four (R60). -/
theorem opcode_of_not_isArithmetic {i : Instr} (h : isArithmetic i = false) :
    i.opcode = 1#4 ∨ i.opcode = 2#4 ∨ i.opcode = 3#4 ∨ i.opcode = 6#4 := by
  cases i with
  | mulmod | expmod => cases h
  | seed1 | seed2 | next | isprp => simp [Instr.opcode]

/-- The end of a latched MULMOD, EXPMOD or reserved opcode leaves the lanes. -/
theorem lanes_of_endLatched {s t : State} (h : endLatched s = .next t) :
    (t.x = s.x ∧ t.y = s.y) ∨ s.op = 1#4 ∨ s.op = 2#4 ∨ s.op = 3#4 ∨ s.op = 6#4 := by
  obtain ⟨i, hop, hexec⟩ | ⟨-, rfl⟩ := endLatched_cases h
  · cases hi : isArithmetic i with
    | true =>
      obtain ⟨hx, hy, -⟩ := sameGenerator_of_exec_arithmetic hi hexec
      exact .inl ⟨hx, hy⟩
    | false => exact .inr (hop ▸ opcode_of_not_isArithmetic hi)
  · exact .inl ⟨rfl, rfl⟩

/-- Settles O41: of the transitions of a step, only the end of a command writes a lane. -/
theorem laneWriters : Obligations.LaneWriters := by
  intro s t hrst hstep hne
  cases step_of hstep with
  | reset hr => simp [hrst] at hr
  | finish _ hp _ _ he =>
    refine ⟨hp, (endOf_of_endLatched he).ph_eq_resp, (lanes_of_endLatched he).resolve_left ?_⟩
    rintro ⟨hx, hy⟩
    simp [hx, hy] at hne
  | accept | idle | wait | take | hold => simp at hne

/-- `SEEDED` is set by SEED1 and SEED2 and kept by the others (R24). -/
theorem seeded_of_exec {i : Instr} {s t : State} (h : exec i s = .next t) :
    t.seeded = true ↔ s.seeded = true ∨ i.opcode = 1#4 ∨ i.opcode = 2#4 := by
  cases i with
  | seed1 | seed2 => cases h; simp [Instr.opcode]
  | mulmod | expmod =>
    obtain ⟨-, -, hsd⟩ := sameGenerator_of_exec_arithmetic rfl h
    simp [hsd, Instr.opcode]
  | next =>
    simp only [exec, execNext, nextWith] at h
    split at h <;> cases h <;> simp [Instr.opcode]
  | isprp =>
    simp only [exec, execIsprp, isprpWith] at h
    split at h
    · cases h; simp [Instr.opcode]
    · split at h <;> cases h <;> simp [Instr.opcode]

theorem seeded_of_endLatched {s t : State} (h : endLatched s = .next t) :
    t.seeded = true ↔ s.seeded = true ∨ s.op = 1#4 ∨ s.op = 2#4 := by
  obtain ⟨i, hop, hexec⟩ | ⟨hop, rfl⟩ := endLatched_cases h
  · rw [← hop]
    exact seeded_of_exec hexec
  · have h1 : s.op ≠ 1#4 := by rintro h; simp [h] at hop
    have h2 : s.op ≠ 2#4 := by rintro h; simp [h] at hop
    simp [h1, h2]

/-- Settles O40: only the end of a command writes a flag; `FLT` by its cause, `SEEDED` by its opcode. -/
theorem flagsSetOnlyAsRuled : Obligations.FlagsSetOnlyAsRuled := by
  intro s t hrst hstep
  cases step_of hstep with
  | reset hr => simp [hrst] at hr
  | finish _ hp hb _ he =>
    have hflt := (endOf_of_endLatched he).flt_eq_false_iff
    refine ⟨?_, by simpa [hp, hb] using seeded_of_endLatched he⟩
    rw [← Bool.not_eq_false, hflt]
    simp [hp, hb, imp_iff_not_or]
  | wait _ _ n hb => simp [hb]
  | accept _ hp | idle _ hp | take _ hp | hold _ hp => simp [hp]

/-! ### The output ports (spec 20_memory.md R50, 30_encoding.md R72) -/

theorem rspCause_append (c : Nibble) (v : Word) : rspCause (c ++ v) = c := by
  rw [rspCause, BitVec.extractLsb'_append_eq_of_le (by decide)]
  exact BitVec.extractLsb'_eq_self

theorem rspData_append (c : Nibble) (v : Word) : rspData (c ++ v) = v :=
  BitVec.extractLsb'_append_eq_right

/-- Settles O46: no port's definition reads a lane, `SEEDED` or a working register. -/
theorem outputsFromRegisters : Obligations.OutputsFromRegisters := by
  refine ⟨fun s => ⟨s.cmdReady_iff, s.rspValid_iff, rfl, fun hp => ?_⟩, fun _ _ _ _ _ => rfl⟩
  rw [State.rspWord_of_resp hp]
  exact ⟨rspCause_append _ _, rspData_append _ _⟩

/-! ### What later behaviour can depend on (spec 10_state.md R20) -/

/-- Both outcomes are next states that are the same in all that later behaviour can depend on. -/
def sameNext (o o' : Host.Outcome State Fault Refusal) : Prop :=
  ∃ t t', o = .next t ∧ o' = .next t' ∧ t.sameArch t'

section
variable {s s' : State} (h : s.sameArch s')
include h

theorem State.sameArch.outputs_eq : s.outputs = s'.outputs := by
  obtain ⟨-, hflt, hph, -, -, hrsp, -, -, hfresh⟩ := h
  have hword : s.rspWord = s'.rspWord := by
    by_cases hp : s.ph = .resp
    · obtain ⟨hdata, hcause⟩ := hrsp hp
      rw [State.rspWord_of_resp hp, State.rspWord_of_resp (hph ▸ hp), hdata, hcause]
    · have hp' : s'.ph ≠ .resp := hph ▸ hp
      simp [State.rspWord, State.rspValid, hp, hp', hfresh]
  simp [State.outputs, State.cmdReady, State.rspValid, State.fltPort, hph, hflt, hword]

theorem State.sameArch.nextInput_eq : s.nextInput = s'.nextInput := by
  obtain ⟨-, -, -, -, -, -, hinputs, -⟩ := h
  rw [State.nextInput, State.nextInput, hinputs]

theorem State.sameArch.clocked : s.clocked.sameArch s'.clocked := by
  obtain ⟨hsd, hflt, hph, hlanes, hcmd, hrsp, hinputs, hbusy, hfresh⟩ := h
  exact ⟨hsd, hflt, hph, hlanes, hcmd, hrsp, congrArg List.tail hinputs, hbusy, congrArg (· + 1) hfresh⟩

theorem State.sameArch.setFlt : s.setFlt.sameArch s'.setFlt := by
  obtain ⟨hsd, -, hrest⟩ := h
  exact ⟨hsd, rfl, hrest⟩

/-- An accept overwrites the command latch, and draws the same BUSY time. -/
theorem State.sameArch.accept (w : CmdWord) : (s.accept w).sameArch (s'.accept w) := by
  have hdraw := busyDraw_congr w h
  obtain ⟨hsd, hflt, -, hlanes, -, -, hinputs, -, hfresh⟩ := h
  exact ⟨hsd, hflt, rfl, hlanes, fun _ => ⟨rfl, rfl, rfl, rfl⟩, nofun, hinputs, hdraw, congrArg (· + 1) hfresh⟩

/-- An end of a command overwrites the response latch; the command latch was held. -/
theorem State.sameArch.endCommand (hp : s.ph ≠ .idle) (c : Cause) (v : Word) :
    (s.endCommand c v).sameArch (s'.endCommand c v) := by
  obtain ⟨hsd, hflt, -, hlanes, hcmd, -, hinputs, hbusy, hfresh⟩ := h
  exact ⟨hsd, hflt, rfl, hlanes, fun _ => hcmd hp, fun _ => ⟨rfl, rfl⟩, hinputs, hbusy, congrArg (· + 1) hfresh⟩

theorem State.sameArch.busyWait (n : Nat) : (s.busyWait n).sameArch (s'.busyWait n) := by
  obtain ⟨hsd, hflt, hph, hlanes, hcmd, hrsp, hinputs, -, hfresh⟩ := h
  exact ⟨hsd, hflt, hph, hlanes, hcmd, hrsp, hinputs, rfl, congrArg (· + 1) hfresh⟩

theorem State.sameArch.takeResponse : s.takeResponse.sameArch s'.takeResponse := by
  obtain ⟨hsd, hflt, -, hlanes, -, -, hinputs, hbusy, hfresh⟩ := h
  exact ⟨hsd, hflt, rfl, hlanes, fun hp => absurd rfl hp, nofun, hinputs, hbusy, hfresh⟩

theorem State.sameArch.seedWith (g : GenConsts) (sx sy : Half) : (s.seedWith g sx sy).sameArch (s'.seedWith g sx sy) := by
  obtain ⟨-, hflt, hph, -, hrest⟩ := h
  exact ⟨rfl, hflt, hph, fun _ => ⟨rfl, rfl⟩, hrest⟩

theorem State.sameArch.withLanes {x x' y y' : Word} (hl : s.seeded = true → x = x' ∧ y = y') :
    (s.withLanes x y).sameArch (s'.withLanes x' y') := by
  obtain ⟨hsd, hflt, hph, -, hrest⟩ := h
  exact ⟨hsd, hflt, hph, hl, hrest⟩

/-! A command held in both states ends alike in them: it reads the lanes only once they are seeded. -/

theorem respond_sameNext (hp : s.ph ≠ .idle) (v : Word) : sameNext (respond v s) (respond v s') :=
  ⟨_, _, rfl, rfl, h.endCommand hp .none v⟩

theorem raiseFault_sameNext (hp : s.ph ≠ .idle) (c : Cause) : sameNext (raiseFault c s) (raiseFault c s') :=
  ⟨_, _, rfl, rfl, h.setFlt.endCommand hp c 0#64⟩

theorem respond_withLanes_sameNext (hp : s.ph ≠ .idle) (v : Word) {x x' y y' : Word}
    (hl : s.seeded = true → x = x' ∧ y = y') :
    sameNext (respond v (s.withLanes x y)) (respond v (s'.withLanes x' y')) :=
  respond_sameNext (h.withLanes hl) hp v

theorem nextWith_sameNext (hp : s.ph ≠ .idle) (g : GenConsts) : sameNext (nextWith g s) (nextWith g s') := by
  have ⟨hsd, _, _, hlanes, _⟩ := h
  simp only [nextWith, ← hsd]
  split
  next hs =>
    obtain ⟨hx, hy⟩ := hlanes hs
    rw [← hx, ← hy]
    exact respond_withLanes_sameNext h hp _ fun _ => ⟨rfl, rfl⟩
  next => exact raiseFault_sameNext h hp _

/-- Unseeded, ISPRP ends normally only when it runs no round, and then the verdict owes nothing to the lanes. -/
theorem isprpWith_sameNext (hp : s.ph ≠ .idle) (g : GenConsts) (n : Word) (k : Half) :
    sameNext (isprpWith g n k s) (isprpWith g n k s') := by
  have ⟨hsd, _, _, hlanes, _⟩ := h
  simp only [isprpWith, ← hsd]
  split
  · exact raiseFault_sameNext h hp _
  · split
    next => exact raiseFault_sameNext h hp _
    next hguard =>
      cases hs : s.seeded with
      | true =>
        obtain ⟨hx, hy⟩ := hlanes hs
        rw [← hx, ← hy]
        exact respond_withLanes_sameNext h hp _ fun _ => ⟨rfl, rfl⟩
      | false =>
        obtain rfl : k = 0#32 := by simpa [hs] using hguard
        exact respond_withLanes_sameNext h hp _ fun hs' => by simp [hs] at hs'

theorem exec_sameNext (hp : s.ph ≠ .idle) (i : Instr) : sameNext (exec i s) (exec i s') := by
  cases i with
  | seed1 seed => exact respond_sameNext (h.seedWith consts seed seed) hp _
  | seed2 sx sy => exact respond_sameNext (h.seedWith consts sx sy) hp _
  | next => exact nextWith_sameNext h hp consts
  | mulmod a b m =>
    simp only [exec, execMulmod]
    split
    · exact raiseFault_sameNext h hp _
    · exact respond_sameNext h hp _
  | expmod b e m => exact respond_sameNext h hp _
  | isprp n k => exact isprpWith_sameNext h hp consts n k

theorem endLatched_sameNext (hp : s.ph ≠ .idle) : sameNext (endLatched s) (endLatched s') := by
  have hl : s.latched = s'.latched := by
    obtain ⟨-, -, -, -, hcmd, -⟩ := h
    obtain ⟨hop, hra, hrb, hrc⟩ := hcmd hp
    rw [State.latched, State.latched, hop, hra, hrb, hrc]
  simp only [endLatched, ← hl]
  split
  · exact exec_sameNext h hp _
  · exact raiseFault_sameNext h hp _

theorem edge_sameNext (inp : EdgeInput) : sameNext (edge inp s) (edge inp s') := by
  have ⟨_, _, hph, _, _, _, hinputs, hbusy, hfresh⟩ := h
  cases hr : inp.rst with
  | true =>
    rw [edge_eq_resetEdge hr, edge_eq_resetEdge hr]
    exact ⟨_, _, rfl, rfl, State.resetEdge_sameArch hinputs hfresh⟩
  | false =>
    cases hp : s.ph with
    | idle =>
      rw [edge_eq_idleEdge hr hp, edge_eq_idleEdge hr (hph ▸ hp), idleEdge, idleEdge]
      split
      · exact ⟨_, _, rfl, rfl, h.accept _⟩
      · exact ⟨_, _, rfl, rfl, h⟩
    | busy =>
      rw [edge_eq_busyEdge hr hp, edge_eq_busyEdge hr (hph ▸ hp), busyEdge, busyEdge, ← hbusy]
      split
      · exact endLatched_sameNext h (by simp [hp])
      · exact ⟨_, _, rfl, rfl, h.busyWait _⟩
    | resp =>
      rw [edge_eq_respEdge hr hp, edge_eq_respEdge hr (hph ▸ hp), respEdge, respEdge]
      split
      · exact ⟨_, _, rfl, rfl, h.takeResponse⟩
      · exact ⟨_, _, rfl, rfl, h⟩

theorem step_sameNext : sameNext (step s) (step s') := by
  rw [step, step, ← h.nextInput_eq]
  exact edge_sameNext h.clocked _

end

theorem steps_succ {s t : State} (h : step s = .next t) (n : Nat) : steps (n + 1) s = steps n t := by
  simp only [steps, h]

theorem steps_sameNext (n : Nat) {s s' : State} (h : s.sameArch s') : sameNext (steps n s) (steps n s') := by
  induction n generalizing s s' with
  | zero => exact ⟨s, s', rfl, rfl, h⟩
  | succ n ih =>
    obtain ⟨t, t', ht, ht', hsame⟩ := step_sameNext h
    rw [steps_succ ht, steps_succ ht']
    exact ih hsame

/-- Settles O45: every transition keeps the relation, and the ports read nothing outside it. -/
theorem unspecifiedNeverObserved : Obligations.UnspecifiedNeverObserved := by
  refine ⟨fun _ _ h => h.outputs_eq, fun _ _ h => step_sameNext h, fun n s s' h => ?_⟩
  obtain ⟨t, t', ht, ht', hsame⟩ := steps_sameNext n h
  exact ⟨t, t', ht, ht', hsame.outputs_eq⟩

end Sys2Proof.Machine

namespace Sys2Proof

/-! ### The opcode table (spec 30_encoding.md R74) -/

/-- The row of the table a command belongs to: four bits of match and of mask, the `OP` field of the word. -/
def Instr.row (i : Instr) : OpcodeRow where
  mnemonic := i.mnemonic
  pattern := packWord i.opcode 0#64 0#64 0#64
  mask := packWord 0xf#4 0#64 0#64 0#64

/-- The table holds one row for each command, whatever its operands. -/
theorem opcodeTable_eq_rows :
    opcodeTable = [(Instr.seed1 0#32).row, (Instr.seed2 0#32 0#32).row, Instr.next.row,
      (Instr.mulmod 0#64 0#64 0#64).row, (Instr.expmod 0#64 0#64 0#64).row, (Instr.isprp 0#64 0#32).row] := by
  decide

theorem Instr.row_mem (i : Instr) : i.row ∈ opcodeTable := by
  cases i <;> simp [opcodeTable_eq_rows, Instr.row, Instr.mnemonic, Instr.opcode]

theorem exists_row_eq {r : OpcodeRow} (h : r ∈ opcodeTable) : ∃ i : Instr, i.row = r := by
  simp only [opcodeTable_eq_rows, List.mem_cons, List.not_mem_nil, or_false] at h
  obtain rfl | rfl | rfl | rfl | rfl | rfl := h <;> exact ⟨_, rfl⟩

/-- A command's row claims exactly the words with the command's opcode. -/
theorem Instr.row_hits_iff (i : Instr) (w : CmdWord) : i.row.hits w = true ↔ opField w = i.opcode := by
  simp only [OpcodeRow.hits, Instr.row, beq_iff_eq, and_packWord, packWord_inj, Laws.Encoding.and_nibble,
    BitVec.and_zero, and_true]

/-- No two rows share a match. -/
theorem Instr.row_eq_of_opcode_eq {i j : Instr} (h : i.opcode = j.opcode) : i.row = j.row := by
  have hpattern : ∀ r ∈ opcodeTable, ∀ r' ∈ opcodeTable, r.pattern = r'.pattern → r = r' := by decide
  exact hpattern _ i.row_mem _ j.row_mem (by rw [Instr.row, Instr.row, h])

/-- No two rows share a mnemonic. -/
theorem Instr.row_eq_of_mnemonic_eq {i j : Instr} (h : i.mnemonic = j.mnemonic) : i.row = j.row := by
  have hmnemonic : ∀ r ∈ opcodeTable, ∀ r' ∈ opcodeTable, r.mnemonic = r'.mnemonic → r = r' := by decide
  exact hmnemonic _ i.row_mem _ j.row_mem h

/-- A word with the opcode of a command decodes to a command of that opcode. -/
theorem exists_decode_of_opField_eq {w : CmdWord} {j : Instr} (h : opField w = j.opcode) :
    ∃ i, decode w = .ok i ∧ i.opcode = j.opcode := by
  obtain ⟨hok | herr, hillegal, hopcode⟩ := decodeTotalByOpcode w
  · obtain ⟨i, hi⟩ := hok
    exact ⟨i, hi, (hopcode i hi).trans h⟩
  · have hreserved := hillegal.1 herr
    rw [h] at hreserved
    cases j <;> simp [Instr.opcode] at hreserved

/-- Settles O4: every row is a command's, which claims a word by its opcode alone; opcode and mnemonic each determine the
row. -/
theorem opcodeTableIsTheDecoder : Obligations.OpcodeTableIsTheDecoder := by
  refine ⟨fun r hr w => ?_, fun r hr r' hr' w hw hw' => ?_⟩
  · obtain ⟨j, rfl⟩ := exists_row_eq hr
    rw [Instr.row_hits_iff]
    constructor
    · intro hop
      obtain ⟨i, hi, hij⟩ := exists_decode_of_opField_eq hop
      exact ⟨i, hi, congrArg OpcodeRow.mnemonic (Instr.row_eq_of_opcode_eq hij)⟩
    · rintro ⟨i, hi, hij⟩
      have hhit := (i.row_hits_iff w).2 ((decode_eq_ok_iff_carries w i).1 hi).opcode_eq.symm
      rw [Instr.row_eq_of_mnemonic_eq hij] at hhit
      exact (j.row_hits_iff w).1 hhit
  · obtain ⟨i, rfl⟩ := exists_row_eq hr
    obtain ⟨j, rfl⟩ := exists_row_eq hr'
    rw [Instr.row_hits_iff] at hw hw'
    exact Instr.row_eq_of_opcode_eq (hw.symm.trans hw')

/-- Settles O1: the decoder computes on each word. -/
theorem specWordsDecode : Obligations.SpecWordsDecode := by
  unfold Obligations.SpecWordsDecode
  decide

end Sys2Proof

namespace Sys2Proof.Machine

/-! ### Seeding (spec 40_prng.md R111) -/

/-- The mix and the XOR with a constant both keep seeds apart. -/
theorem mixFn_seed_injective {g : GenConsts} (h : g.wellFormed = true) (c : Word) :
    Function.Injective fun seed : Half => mixFn g (zext64 seed ^^^ c) := fun _ _ heq =>
  zext64_inj.1 ((BitVec.xor_left_inj c).1 (mixFn_injective h heq))

/-- Settles O9: each lane is a mixed seed. -/
theorem seedingIsInjective : Obligations.SeedingIsInjective := fun g hg =>
  ⟨fun _ _ h => mixFn_seed_injective hg g.seedXorX h, fun _ _ h => mixFn_seed_injective hg g.seedXorY h⟩

/-! ### Square-and-multiply (spec 42_expmod.md R143) -/

/-- Settles O18: the leading bit starts the power, and each iteration is a remainder by `m` that keeps it. -/
theorem squareAndMultiplyInvariant : Obligations.SquareAndMultiplyInvariant := by
  intro b e m hm he
  have hm0 : 0 < m.toNat := Nat.zero_lt_of_lt hm
  have he0 : 0 < e.toNat := Nat.pos_of_ne_zero fun h => he (BitVec.eq_of_toNat_eq h)
  refine ⟨⟨msb_le e, div_two_pow_msb he0, modFn_eq_power_msb b m he0⟩, fun i acc _ hacc => ?_⟩
  have hstep := expStep_keeps_power hm0 hacc
  exact ⟨hstep, hstep ▸ Nat.mod_lt _ hm0⟩

/-! ### The reduction as micro-steps (spec 41_mulmod.md R131, R133) -/

/-- From M2 the iterations still to do are the reduction loop, and its remainder is responded. -/
theorem reaches_done_of_m2 (g : GenConsts) (i : Nat) (s : State) :
    Reaches g ⟨.m2 i, s⟩ ⟨.done, s.endCommand .none ((reduceLoop s.rc s.work.prod i s.work.rem).setWidth 64)⟩ := by
  induction i generalizing s with
  | zero => exact .head rfl (.refl g _)
  | succ i ih =>
    exact .head rfl (ih (s.withWork { s.work with rem := reduceStep s.rc (s.work.prod.getLsbD i) s.work.rem }))

/-- Behind the guard the micro-steps respond the serial reduction. -/
theorem reaches_done_of_m0 (g : GenConsts) (s : State) :
    ∃ t, execMulmod s.ra s.rb s.rc s = .next t ∧ Reaches g ⟨.m0, s⟩ ⟨.done, t⟩ := by
  by_cases hm : s.rc.toNat ≤ 1
  · exact ⟨_, execMulmod_of_le_one s.ra s.rb s hm, .head (if_pos hm) (.refl g _)⟩
  · have hm1 : 1 < s.rc.toNat := Nat.lt_of_not_le hm
    have hserial := mulModSerial_eq s.ra s.rb (Nat.zero_lt_of_lt hm1)
    refine ⟨_, execMulmod_of_gt_one s.ra s.rb s hm1, .head (if_neg hm) (.head rfl ?_)⟩
    rw [← hserial]
    exact reaches_done_of_m2 g 128 (s.withWork { s.work with prod := exactProduct s.ra s.rb, rem := 0#65 })

/-- Settles O48: the micro-steps end in the very state of the command's meaning. -/
theorem mulmodMicroRefines : Obligations.MulmodMicroRefines := fun s =>
  have ⟨t, ht, n, hn⟩ := reaches_done_of_m0 consts s
  ⟨n, t, hn, t, ht, State.agrees_rfl t⟩

end Sys2Proof.Machine

namespace Sys2Proof.Machine

/-! ### A normal end (spec 60_exceptions.md R188) -/

/-- A command that ends with cause 0 was within its contract. -/
theorem contract_of_exec {i : Instr} {s t : State} (h : exec i s = .next t) (hc : t.rcause = 0#4) : Contract i s := by
  by_contra hcontract
  obtain ⟨c, hne, -, hexec⟩ := exec_eq_raiseFault_of_not_contract hcontract
  cases hexec.symm.trans h
  exact hne hc

/-! ### The loops end by themselves (spec 43_rabin_miller.md R158) -/

/-- Once the strip loop has reached an odd value, a larger limit changes nothing. -/
theorem stripLoop_add_of_isOdd (fuel f : Nat) {d : Word} (h : isOdd (stripLoop fuel d) = true) :
    stripLoop (fuel + f) d = stripLoop fuel d := by
  induction fuel generalizing d with
  | zero =>
    cases f with
    | zero => rfl
    | succ f => rw [Nat.zero_add]; exact if_pos h
  | succ fuel ih =>
    rw [Nat.succ_add]
    rw [stripLoop] at h ⊢
    rw [stripLoop]
    split
    next => rfl
    next heven => exact ih (by rwa [if_neg heven] at h)

/-- `n - 1` is the odd part of a candidate with at least one factor of two, and few enough for the loops' limit. -/
theorem LegalCandidate.exists_exponent {n : Word} (hn : LegalCandidate n) :
    ∃ i < 64, n.toNat - 1 = (stripFn n).toNat * 2 ^ (i + 1) := by
  obtain ⟨hodd, s, hs, heq⟩ := stripFn_odd_part hn
  obtain ⟨i, rfl⟩ := Nat.exists_eq_succ_of_ne_zero (hn.cofactor_pos hodd heq).ne'
  exact ⟨i, Nat.lt_of_succ_lt hs, heq⟩

/-- Settles O21: the strip loop stops at the odd part, and the squaring loop's value is the same closed form for every limit
above the number of squarings. -/
theorem loopsEndWithinTheirBounds : Obligations.LoopsEndWithinTheirBounds := by
  intro n hn
  obtain ⟨hodd, -⟩ := stripFn_odd_part hn
  obtain ⟨i, hi, heq⟩ := hn.exists_exponent
  refine ⟨fun f => stripLoop_add_of_isOdd 64 f ((isOdd_iff _).2 hodd),
    fun a => ⟨roundFn_stripFn_decides hn a, fun f => ?_⟩⟩
  rw [roundLoop_eq hn (Nat.lt_add_right f hi) heq, roundLoop_eq hn hi heq]

/-! ### A prime passes every round but that of the witness 0 (spec 43_rabin_miller.md R159) -/

/-- Where 1 has no square roots but 1 and -1: repeated squaring that ends in 1 starts there or comes through -1. -/
theorem pow_eq_one_or_exists_pow_eq_neg_one {R : Type*} [Ring R] [NoZeroDivisors R] {x : R} {d s : Nat}
    (h : x ^ (d * 2 ^ s) = 1) : x ^ d = 1 ∨ ∃ j < s, x ^ (d * 2 ^ j) = -1 := by
  induction s with
  | zero => exact .inl (by simpa using h)
  | succ s ih =>
    rw [pow_succ, ← mul_assoc, pow_mul, sq, mul_self_eq_one_iff] at h
    obtain hone | hneg := h
    · exact (ih hone).imp_right fun ⟨j, hj, hx⟩ => ⟨j, Nat.lt_succ_of_lt hj, hx⟩
    · exact .inr ⟨s, s.lt_succ_self, hneg⟩

/-- A power read modulo `n` is 1 where it is 1 in the ring of residues. -/
theorem pow_mod_eq_one {a e n : Nat} (hn : 1 < n) (h : (a : ZMod n) ^ e = 1) : a ^ e % n = 1 := by
  have hcast : ((a ^ e : Nat) : ZMod n) = (1 : Nat) := by rw [Nat.cast_pow, h, Nat.cast_one]
  rw [(ZMod.natCast_eq_natCast_iff' _ _ n).1 hcast, Nat.mod_eq_of_lt hn]

/-- A power read modulo `n` is `n - 1` where it is -1 in the ring of residues. -/
theorem pow_mod_eq_pred {a e n : Nat} (hn : 1 < n) (h : (a : ZMod n) ^ e = -1) : a ^ e % n = n - 1 := by
  have hcast : ((a ^ e : Nat) : ZMod n) = (n - 1 : Nat) := by
    rw [Nat.cast_pow, h, Nat.cast_sub hn.le, ZMod.natCast_self, zero_sub, Nat.cast_one]
  rw [(ZMod.natCast_eq_natCast_iff' _ _ n).1 hcast, Nat.mod_eq_of_lt (by omega)]

theorem legalCandidate_of_prime {n : Word} (hp : n.toNat.Prime) (hn : 2 < n.toNat) : LegalCandidate n :=
  ⟨hn, hp.eq_two_or_odd.resolve_left hn.ne'⟩

/-- The strong-probable-prime property (G3), of the model's round. -/
theorem roundFn_of_prime {n a : Word} (hp : n.toNat.Prime) (hn : 2 < n.toNat) (ha : 1 ≤ a.toNat)
    (han : a.toNat ≤ n.toNat - 1) : roundFn n (stripFn n) a = .passed := by
  have hlegal := legalCandidate_of_prime hp hn
  have hn1 : 1 < n.toNat := Nat.lt_of_succ_lt hn
  obtain ⟨i, -, heq⟩ := hlegal.exists_exponent
  have : Fact n.toNat.Prime := ⟨hp⟩
  have hne : (a.toNat : ZMod n.toNat) ≠ 0 := by
    rw [Ne, ZMod.natCast_eq_zero_iff]
    exact Nat.not_dvd_of_pos_of_lt ha (by omega)
  have hfermat : (a.toNat : ZMod n.toNat) ^ ((stripFn n).toNat * 2 ^ (i + 1)) = 1 := by
    rw [← heq]
    exact ZMod.pow_card_sub_one_eq_one hne
  rw [roundFn_eq hlegal i.succ_pos heq, if_pos]
  exact (pow_eq_one_or_exists_pow_eq_neg_one hfermat).imp (pow_mod_eq_one hn1)
    fun ⟨j, hj, hx⟩ => ⟨j, hj, pow_mod_eq_pred hn1 hx⟩

/-- So a COMPOSITE round of a prime had the witness 0: a witness is below the candidate. -/
theorem witnessAt_eq_zero_of_composite {g : GenConsts} {n x y : Word} {j : Nat} (hp : n.toNat.Prime) (hn : 2 < n.toNat)
    (h : roundFn n (stripFn n) (witnessAt g n j x y) = .composite) : witnessAt g n j x y = 0#64 := by
  have hlt : (witnessAt g n j x y).toNat < n.toNat := (witnessAssembly _ _ n hp.pos).2
  by_contra hne
  have hpos : 0 < (witnessAt g n j x y).toNat := Nat.pos_of_ne_zero fun h0 => hne (BitVec.eq_of_toNat_eq h0)
  rw [roundFn_of_prime hp hn hpos (by omega)] at h
  cases h

/-- Settles O23: the verdict 0 comes from a COMPOSITE round, the last one run, and a prime has no such round but that of the
witness 0. -/
theorem compositeOfPrimeOnlyByZeroWitness : Obligations.CompositeOfPrimeOnlyByZeroWitness := by
  refine ⟨fun n a hp hn ha han => roundFn_of_prime hp hn ha han, fun n k s t hp hn hexec hcause hdata => ?_⟩
  obtain ⟨hlegal, hk⟩ := contract_of_exec hexec hcause
  obtain ⟨hrounds, -⟩ := isprpRoundsAndDraws
  obtain ⟨r, v, hr, ⟨u, hu, hagree⟩, hverdict⟩ := hrounds n k s hlegal hk
  cases hexec.symm.trans hu
  obtain ⟨hx, hy, -, -, -, -, -, -, -, hv, -⟩ := hagree
  obtain ⟨rfl, -⟩ | ⟨-, hr1, hcomposite, -⟩ := hverdict
  · exact absurd (hv.symm.trans hdata) (by decide : (1#64 : Word) ≠ 0#64)
  · obtain ⟨j, rfl⟩ := Nat.exists_eq_succ_of_ne_zero (Nat.ne_of_gt hr1)
    exact ⟨j, hr, Prod.ext hx hy, witnessAt_eq_zero_of_composite hp hn hcomposite⟩

/-! ### What a command's end owes to the state (spec 60_exceptions.md R188, 70_reset_and_hazards.md R211) -/

/-- Settles O26: no command reads more than the lanes and `SEEDED`. -/
theorem verdictFunctionOfLanes : Obligations.VerdictFunctionOfLanes := fun n k _ _ hx hy hsd =>
  exec_sameEnd (.isprp n k) ⟨hx, hy, hsd⟩

theorem finalState_cons {i : Instr} {s t : State} (h : exec i s = .next t) (p : List Instr) :
    finalState (i :: p) s = finalState p t := by
  simp only [finalState, h]

/-- `FLT` is clear after a run exactly when it was before it and no response had a cause. -/
theorem finalState_flt_eq_false_iff (p : List Instr) (s : State) :
    (finalState p s).flt = false ↔ s.flt = false ∧ ∀ r ∈ responses p s, r.cause = 0#4 := by
  induction p generalizing s with
  | nil => simp [finalState, responses]
  | cons i p ih =>
    obtain ⟨t, ht, hend⟩ := exec_end i s
    rw [finalState_cons ht, responses_cons ht, ih, hend.flt_eq_false_iff, List.forall_mem_cons, and_assoc]
    rfl

/-- Settles O30: a run that starts with `FLT` clear. -/
theorem cleanRunIffNoCause : Obligations.CleanRunIffNoCause := by
  intro p s hflt
  rw [finalState_flt_eq_false_iff, and_iff_right hflt]

/-! ### The range of the responses (spec 30_encoding.md R82) -/

theorem verdictWord_eq_zero_or_one (b : Bool) : verdictWord b = 0#64 ∨ verdictWord b = 1#64 := by
  cases b
  · exact .inl rfl
  · exact .inr rfl

theorem expModFn_lt (b e : Word) {m : Word} (hm : 1 < m.toNat) : (expModFn b e m).toNat < m.toNat := by
  rw [expModFn_toNat]
  split
  · omega
  · split
    · exact hm
    · exact Nat.mod_lt _ (by omega)

/-- Settles O47: cause 0 means a normal end, whose data is the function's value. -/
theorem responseDataShape : Obligations.ResponseDataShape := by
  intro i s t hexec hcause
  have hcontract := contract_of_exec hexec hcause
  cases i with
  | seed1 | seed2 => cases hexec; rfl
  | next =>
    cases (nextWith_of_seeded consts hcontract).symm.trans hexec
    exact (zext64_toNat _).trans_lt (BitVec.isLt _)
  | mulmod a b m =>
    cases (execMulmod_of_gt_one a b s hcontract).symm.trans hexec
    exact mulModFn_lt a b (Nat.zero_lt_of_lt hcontract)
  | expmod b e m => cases hexec; exact expModFn_lt b e
  | isprp n k =>
    obtain ⟨hn, hk⟩ := hcontract
    cases (isprpWith_of_legal consts hn hk).symm.trans hexec
    exact verdictWord_eq_zero_or_one _

/-! ### A command from accept to response (spec 00_scope.md R6, 20_memory.md R55, R68) -/

theorem steps_one (s : State) : steps 1 s = step s := by
  obtain ⟨t, ht⟩ := exists_edge_eq_next s.nextInput s.clocked
  rw [steps_succ ht, steps]
  exact ht.symm

theorem steps_add {m : Nat} {s t : State} (h : steps m s = .next t) (n : Nat) : steps (m + n) s = steps n t := by
  induction m generalizing s with
  | zero => cases h; rw [Nat.zero_add]
  | succ m ih =>
    obtain ⟨u, hu⟩ := exists_edge_eq_next s.nextInput s.clocked
    rw [steps_succ hu] at h
    rw [Nat.succ_add, steps_succ hu, ih h]

/-- The state after `m` BUSY edges in which the command has not ended: only the host's list and the wait count have moved. -/
def State.waited (m : Nat) (s : State) : State :=
  { s with inputs := s.inputs.drop m, busyLeft := s.busyLeft - m }

/-- The first of the next edges brings no reset. -/
theorem State.noReset.rst_eq_false {s : State} {n : Nat} (h : s.noReset (n + 1)) : s.nextInput.rst = false := by
  rw [State.noReset] at h
  rw [State.nextInput]
  cases hi : s.inputs with
  | nil => rfl
  | cons inp rest => exact h inp (by simp [hi])

theorem State.noReset.mono {s : State} {m n : Nat} (h : s.noReset n) (hmn : m ≤ n) : s.noReset m :=
  fun inp hinp => h inp (List.take_subset_take_left _ hmn hinp)

theorem State.noReset.drop {s t : State} {m n : Nat} (h : s.noReset (m + n)) (ht : t.inputs = s.inputs.drop m) :
    t.noReset n := by
  intro inp hinp
  rw [ht, List.take_drop] at hinp
  exact h inp (List.mem_of_mem_drop hinp)

/-- A BUSY block with no reset to come waits until its count is used up. -/
theorem steps_of_busy (m : Nat) {s : State} (hp : s.ph = .busy) (hm : m ≤ s.busyLeft) (hr : s.noReset m) :
    ∃ t, steps m s = .next t ∧ t.agrees (s.waited m) := by
  induction m generalizing s with
  | zero => exact ⟨s, rfl, s.agrees_rfl⟩
  | succ m ih =>
    obtain ⟨b, hb⟩ : ∃ b, s.busyLeft = b + 1 := Nat.exists_eq_succ_of_ne_zero (by omega)
    rw [steps_succ (step_eq_busyWait hr.rst_eq_false hp hb)]
    obtain ⟨t, ht, hagree⟩ := ih (s := s.clocked.busyWait b) hp (by simp; omega)
      (State.noReset.drop (m := 1) (by rwa [Nat.add_comm]) (by simp))
    exact ⟨t, ht, State.agrees_trans hagree (by simp [State.agrees, State.waited, hb])⟩

/-- The whole time in BUSY: the waiting edges, then the edge that ends the command, on registers as they were. -/
theorem steps_eq_endLatched {s : State} (hp : s.ph = .busy) (hr : s.noReset (s.busyLeft + 1)) :
    ∃ t : State, t.agrees (s.waited s.busyLeft) ∧ steps (s.busyLeft + 1) s = endLatched t.clocked := by
  obtain ⟨t, ht, hagree⟩ := steps_of_busy s.busyLeft hp le_rfl (hr.mono (Nat.le_succ _))
  have ⟨_, _, _, _, hph, _, _, _, _, _, _, hinputs, hbusy⟩ := hagree
  have hrst : t.nextInput.rst = false := (hr.drop hinputs).rst_eq_false (n := 0)
  refine ⟨t, hagree, ?_⟩
  rw [steps_add ht, steps_one, step_eq_endLatched hrst (hph.trans hp) (by simpa [State.waited] using hbusy)]

/-- Settles O35: the wait, then the end of the command. -/
theorem everyCommandEnds : Obligations.EveryCommandEnds := by
  intro s hp hr
  refine ⟨?_, fun m hm => ?_⟩
  · obtain ⟨u, -, hend⟩ := steps_eq_endLatched hp hr
    obtain ⟨t, ht, hof⟩ := endLatched_end u.clocked
    exact ⟨t, hend.trans ht, hof.ph_eq_resp⟩
  · obtain ⟨t, ht, hagree⟩ := steps_of_busy m hp hm (hr.mono (Nat.le_succ_of_le hm))
    obtain ⟨-, -, -, -, hph, -⟩ := hagree
    exact ⟨t, ht, hph.trans hp⟩

/-- States with the same generator state and `FLT` end a command with the same lanes, flags and response. -/
theorem exec_registers_congr (i : Instr) {s s' : State} (h : s.sameGenerator s') (hf : s.flt = s'.flt) :
    ∃ t t', exec i s = .next t ∧ exec i s' = .next t' ∧ t.sameGenerator t' ∧ t.flt = t'.flt
      ∧ t.rcause = t'.rcause ∧ t.rdata = t'.rdata := by
  obtain ⟨t, t', ht, ht', hrsp, hgen⟩ := exec_sameEnd i h
  have hcause : t.rcause = t'.rcause := congrArg Response.cause hrsp
  obtain ⟨u, hu, hend⟩ := exec_end i s
  obtain ⟨u', hu', hend'⟩ := exec_end i s'
  cases ht.symm.trans hu
  cases ht'.symm.trans hu'
  refine ⟨t, t', ht, ht', hgen, ?_, hcause, congrArg Response.data hrsp⟩
  rw [Bool.eq_iff_iff, ← not_iff_not, Bool.not_eq_true, Bool.not_eq_true, hend.flt_eq_false_iff,
    hend'.flt_eq_false_iff, hf, hcause]

/-- Settles O36: an accept latches the word and the wait keeps the registers, so the ending edge runs the decoded command in
the registers at accept. -/
theorem commandIsOneTransition : Obligations.CommandIsOneTransition := by
  intro s hp hv hr
  have hrst : s.nextInput.rst = false := State.noReset.rst_eq_false (n := 0) fun inp hinp => hr inp (List.mem_of_mem_take hinp)
  have haccept := step_eq_accept hrst hp hv
  generalize hw : s.nextInput.cmdWord = w at haccept ⊢
  obtain ⟨u, hagree, hsteps⟩ := steps_eq_endLatched (s := s.clocked.accept w) rfl
    fun inp hinp => hr inp (List.mem_of_mem_tail (List.mem_of_mem_take hinp))
  obtain ⟨hx, hy, hsd, hflt, -, hop, hra, hrb, hrc, -⟩ := hagree
  have hlatched : u.clocked.latched = decode w := by
    simp only [State.latched, State.clocked_op, State.clocked_ra, State.clocked_rb, State.clocked_rc, hop, hra, hrb, hrc]
    rfl
  obtain ⟨t, ht, hend⟩ := endLatched_end u.clocked
  refine ⟨(s.clocked.accept w).busyLeft, t, ?_, hend.ph_eq_resp, fun i hi => ?_, fun e he => ?_⟩
  · rw [steps_succ haccept, hsteps, ht]
  · rw [endLatched_of_ok (hlatched.trans hi)] at ht
    obtain ⟨t', v, ht', hv', ⟨hx', hy', hsd'⟩, hflt', hcause, hdata⟩ :=
      exec_registers_congr i (s := u.clocked) (s' := s) ⟨hx, hy, hsd⟩ hflt
    cases ht'.symm.trans ht
    exact ⟨v, hv', hx', hy', hsd', hflt', hcause, hdata⟩
  · rw [endLatched_of_error (hlatched.trans he)] at ht
    cases ht
    exact ⟨hx, hy, hsd, rfl, rfl, rfl⟩

end Sys2Proof.Machine
